-- ==== Sys2Proof/Word.lean ====
section
/-! DEFINITION. The word types of the block: bytes, the register widths, instants (00_scope.md section 5.1, 10_state.md R10). -/

namespace Sys2Proof

/-- One byte of a packet, and the width of the small Packet registers. -/
abbrev Byte := BitVec 8

/-- A 32-bit Packet register (ROOTDELAY, ROOTDISP, REFID). -/
abbrev Half := BitVec 32

/-- The data width of the host port, and of the 64-bit registers (20_memory.md R40). -/
abbrev Word := BitVec 64

/-- A register address on the host port (20_memory.md R41). -/
abbrev RegAddr := BitVec 8

/-- A 16-bit command word (30_encoding.md R70). -/
abbrev CmdWord := BitVec 16

end Sys2Proof
end

