-- ==== Sys2Proof/Syntax.lean ====
section
/-! DEFINITION. The twelve commands, what they name, and the four host transactions (30_encoding.md R71, 20_memory.md R40). -/

namespace Sys2Proof

/-- The seven error kinds, "and no others" (60_exceptions.md R150). -/
inductive ErrorKind where
  | invalidVersion
  | resolutionFailure
  | connectFailure
  | timeout
  | writeFailure
  | readFailure
  | malformedPacket
  deriving DecidableEq, Repr

/-- The four timestamp registers, in packet order (30_encoding.md R73). -/
inductive TsReg where
  | refts
  | orgts
  | rxts
  | txts
  deriving DecidableEq, Repr

/-- The twelve opcodes (30_encoding.md R71). -/
inductive Opcode where
  | new
  | req
  | sent
  | reply
  | abort
  | clrpkt
  | setmode
  | setver
  | pack
  | unpack
  | ts2i
  | calculate
  deriving DecidableEq, Repr

/-- One command with its operand (30_encoding.md R71, R72): one constructor per row of the opcode table. -/
inductive Instr where
  /-- NEW: a fresh instance of the request state machine (44_exchange.md R131). -/
  | new
  /-- REQ v: build the request for version `v`; every 8-bit value is a legal word (44_exchange.md R132). -/
  | req (v : BitVec 8)
  /-- SENT: the request bytes were handed to the transport (44_exchange.md R133). -/
  | sent
  /-- REPLY: decode the reply and run the estimator (44_exchange.md R134). -/
  | reply
  /-- ABORT k: record a failure the transport reports (44_exchange.md R135). -/
  | abort (k : ErrorKind)
  /-- CLRPKT: zero the Packet (40_header_bits.md R90). -/
  | clrpkt
  /-- SETMODE m: write the mode field of LVM (40_header_bits.md R91). -/
  | setmode (m : BitVec 3)
  /-- SETVER v: validate and write the version field of LVM (40_header_bits.md R92). -/
  | setver (v : BitVec 8)
  /-- PACK: serialize the Packet into BUF (41_serdes.md R101). -/
  | pack
  /-- UNPACK: deserialize BUF into the Packet (41_serdes.md R106). -/
  | unpack
  /-- TS2I s: convert a timestamp register to an instant (42_timestamp.md R111). -/
  | ts2i (s : TsReg)
  /-- CALC: run the offset estimator (43_offset.md R121). -/
  | calculate
  deriving DecidableEq, Repr

/-- The registers of the host's address space (20_memory.md R42). -/
inductive RegName where
  | buf (i : Fin 48)
  | buflen
  | lvm
  | stratum
  | poll
  | precision
  | rootdelay
  | rootdisp
  | refid
  | refts
  | orgts
  | rxts
  | txts
  | t1
  | t2
  | t3
  | t4
  | delta
  | ndelay
  | offset
  | tsi
  | phase
  | err
  | rsp
  deriving DecidableEq, Repr

/-- The four kinds of host transaction, the only ways the block's state changes (20_memory.md R40). -/
inductive Transaction where
  /-- `Reset`: no operands, no result. -/
  | reset
  /-- `RegRead(a)`: returns a 64-bit value. -/
  | regRead (a : RegAddr)
  /-- `RegWrite(a, v)`: returns nothing. -/
  | regWrite (a : RegAddr) (v : Word)
  /-- `Cmd(w)`: returns a response code. -/
  | cmd (w : CmdWord)
  deriving DecidableEq, Repr

end Sys2Proof
end

