-- ==== Sys2Proof/WellFormed.lean ====
section
/-! DEFINITION. Which commands a legal word spells: the operand checks the types do not make (30_encoding.md R75, R76). -/

namespace Sys2Proof

/-- The kinds the transport reports, 2 to 6. Kinds 1 and 7 "cannot be injected, because the block detects them itself"
(44_exchange.md R135). -/
def ErrorKind.reportable : ErrorKind → Bool
  | .invalidVersion => false
  | .resolutionFailure => true
  | .connectFailure => true
  | .timeout => true
  | .writeFailure => true
  | .readFailure => true
  | .malformedPacket => false

/-- The one operand check beyond the operand's type: ABORT's kind lies in 2..6 (30_encoding.md R75 step 3). A version
outside 3 and 4 is NOT ill-formed: the word is legal and the command raises InvalidVersion (R77). -/
def Instr.wellFormed : Instr → Bool
  | .new => true
  | .req _ => true
  | .sent => true
  | .reply => true
  | .abort k => k.reportable
  | .clrpkt => true
  | .setmode _ => true
  | .setver _ => true
  | .pack => true
  | .unpack => true
  | .ts2i _ => true
  | .calculate => true

end Sys2Proof
end

