-- ==== Sys2Proof/Decode.lean ====
section
/-! DEFINITION. The decoder of command words, total and rejecting by name, the encoder written from the same tables
(30_encoding.md R70 to R77), and the host's view of the decoder. -/

namespace Sys2Proof

/-- The numbers of the error kinds (30_encoding.md R74, 60_exceptions.md R150); ABORT's operand uses the same. -/
def ErrorKind.code : ErrorKind → BitVec 4
  | .invalidVersion => 1
  | .resolutionFailure => 2
  | .connectFailure => 3
  | .timeout => 4
  | .writeFailure => 5
  | .readFailure => 6
  | .malformedPacket => 7

/-- The kind ABORT's operand names, if it is one of the legal 2..6 (30_encoding.md R75 step 3, R76). -/
def ErrorKind.ofAbortOperand (k : BitVec 4) : Option ErrorKind :=
  match k.toNat with
  | 2 => some .resolutionFailure
  | 3 => some .connectFailure
  | 4 => some .timeout
  | 5 => some .writeFailure
  | 6 => some .readFailure
  | _ => none

/-- The selector of a timestamp register (30_encoding.md R73). -/
def TsReg.code : TsReg → BitVec 2
  | .refts => 0
  | .orgts => 1
  | .rxts => 2
  | .txts => 3

/-- The register a selector names (30_encoding.md R73); all four values name one. -/
def TsReg.ofSelector (s : BitVec 2) : TsReg :=
  match s.toNat with
  | 0 => .refts
  | 1 => .orgts
  | 2 => .rxts
  | _ => .txts

/-- The opcode number, w[15:8] (30_encoding.md R71). -/
def Opcode.number : Opcode → BitVec 8
  | .new => 0x01
  | .req => 0x02
  | .sent => 0x03
  | .reply => 0x04
  | .abort => 0x05
  | .clrpkt => 0x10
  | .setmode => 0x11
  | .setver => 0x12
  | .pack => 0x13
  | .unpack => 0x14
  | .ts2i => 0x20
  | .calculate => 0x21

/-- The bits of `arg` that must be zero (30_encoding.md R71, column "reserved"). -/
def Opcode.reserved : Opcode → BitVec 8
  | .new => 0xFF
  | .req => 0x00
  | .sent => 0xFF
  | .reply => 0xFF
  | .abort => 0xF0
  | .clrpkt => 0xFF
  | .setmode => 0xF8
  | .setver => 0x00
  | .pack => 0xFF
  | .unpack => 0xFF
  | .ts2i => 0xFC
  | .calculate => 0xFF

/-- The rows of the opcode map in the table's order (30_encoding.md R71). -/
def Opcode.all : List Opcode :=
  [.new, .req, .sent, .reply, .abort, .clrpkt, .setmode, .setver, .pack, .unpack, .ts2i, .calculate]

/-- The row whose opcode equals `w[15:8]` (30_encoding.md R75 step 1). -/
def Opcode.ofNumber (op : BitVec 8) : Option Opcode :=
  Opcode.all.find? fun c => c.number == op

/-- Why a word spells no command (30_encoding.md R76). -/
inductive IllegalWord where
  /-- no row has this opcode -/
  | unassignedOpcode
  /-- a reserved bit of `arg` is not 0 -/
  | reservedBits
  /-- an ABORT kind outside 2..6 -/
  | abortKind
  deriving DecidableEq, Repr

/-- Operand assembly, "without extension, scaling or shifting" (30_encoding.md R72), and ABORT's check (R75 step 3). -/
def Opcode.withOperand (c : Opcode) (arg : BitVec 8) : Except IllegalWord Instr :=
  match c with
  | .new => .ok .new
  | .req => .ok (.req arg)
  | .sent => .ok .sent
  | .reply => .ok .reply
  | .abort =>
    match ErrorKind.ofAbortOperand (arg.extractLsb' 0 4) with
    | some k => .ok (.abort k)
    | none => .error .abortKind
  | .clrpkt => .ok .clrpkt
  | .setmode => .ok (.setmode (arg.extractLsb' 0 3))
  | .setver => .ok (.setver arg)
  | .pack => .ok .pack
  | .unpack => .ok .unpack
  | .ts2i => .ok (.ts2i (TsReg.ofSelector (arg.extractLsb' 0 2)))
  | .calculate => .ok .calculate

/-- The decoder: the four steps of 30_encoding.md R75, in its order. -/
def decode (w : CmdWord) : Except IllegalWord Instr :=
  match Opcode.ofNumber (w.extractLsb' 8 8) with
  | none => .error .unassignedOpcode
  | some c =>
    if w.extractLsb' 0 8 &&& c.reserved = 0 then c.withOperand (w.extractLsb' 0 8)
    else .error .reservedBits

/-- The row a command belongs to (30_encoding.md R71). -/
def Instr.opcode : Instr → Opcode
  | .new => .new
  | .req _ => .req
  | .sent => .sent
  | .reply => .reply
  | .abort _ => .abort
  | .clrpkt => .clrpkt
  | .setmode _ => .setmode
  | .setver _ => .setver
  | .pack => .pack
  | .unpack => .unpack
  | .ts2i _ => .ts2i
  | .calculate => .calculate

/-- The argument byte of a command (30_encoding.md R71, R72). -/
def Instr.arg : Instr → BitVec 8
  | .new => 0
  | .req v => v
  | .sent => 0
  | .reply => 0
  | .abort k => k.code.setWidth 8
  | .clrpkt => 0
  | .setmode m => m.setWidth 8
  | .setver v => v
  | .pack => 0
  | .unpack => 0
  | .ts2i s => s.code.setWidth 8
  | .calculate => 0

/-- The word assembled: `(op << 8) | operand` (30_encoding.md R70, R80). -/
def encode (i : Instr) : CmdWord :=
  i.opcode.number ++ i.arg

/-- The command word the host's numbering gives: the low `nbits` bits of `w`. A command is one 16-bit word (R70), so a
longer number spells none (log 11). -/
def tableWord (nbits w : Nat) : Option CmdWord :=
  if w % 2 ^ nbits < 2 ^ 16 then some (BitVec.ofNat 16 (w % 2 ^ nbits)) else none

/-- The instruction the decoder reads from a word numbered as the opcode table numbers it. -/
def decodeTableWord (nbits w : Nat) : Option Instr :=
  match tableWord nbits w with
  | none => none
  | some v =>
    match decode v with
    | .ok i => some i
    | .error _ => none

end Sys2Proof
end

