-- ==== Sys2Proof/Config.lean ====
section
/-! DEFINITION. The implementation parameters of the block (00_scope.md section 4.1). The spec fixes every parameter a
rule depends on; the two it leaves open, HOST_PORT_PROTOCOL and CMD_LATENCY, are read by no rule and stand nowhere in the
model (R197, log 8). No value is left open by an instruction, so there is no free value here. -/

namespace Sys2Proof.Config

/-- PACKET_BYTES: a packet, and BUF, is exactly 48 bytes (30_encoding.md R60, 10_state.md R20). -/
def packetBytes : Nat := 48

/-- The legal request versions, 3 and 4 (00_scope.md R3). -/
def requestVersions : List Byte := [3, 4]

/-- The mode value "client", 3 (30_encoding.md R62). -/
def clientMode : BitVec 3 := 3

/-- NS_PER_S: nanoseconds in a second (42_timestamp.md R110). -/
def nsPerSecond : Word := 1000000000

/-- INSTANT_MAX: the largest converted timestamp (42_timestamp.md R112). -/
def instantMax : Nat := 4294967295999999999

/-- N_INSTANCES: one block (20_memory.md R55). -/
def instances : Nat := 1

end Sys2Proof.Config
end

