-- ==== Sys2Proof/Machine/State.lean ====
section
/-! DEFINITION. The state of the block, as plain data, and its value after reset (10_state.md R10 to R32). -/

namespace Sys2Proof.Machine

/-- The eleven Packet registers (10_state.md R11 to R18). Every value of every one of them is legal. -/
@[ext]
structure Packet where
  /-- LI/VN/Mode byte (R11) -/
  lvm : Byte
  /-- stratum (R12) -/
  stratum : Byte
  /-- poll exponent, raw (R13) -/
  poll : Byte
  /-- precision exponent, raw (R14) -/
  precision : Byte
  /-- root delay, 16.16, raw (R15) -/
  rootdelay : Half
  /-- root dispersion, 16.16, raw (R16) -/
  rootdisp : Half
  /-- reference ID, raw (R17) -/
  refid : Half
  /-- reference timestamp: seconds 63:32, fraction 31:0 (R18) -/
  refts : Word
  /-- origin timestamp (R18) -/
  orgts : Word
  /-- receive timestamp (R18) -/
  rxts : Word
  /-- transmit timestamp (R18) -/
  txts : Word
  deriving DecidableEq, Repr

/-- The states of the request state machine (10_state.md R25). Values 5, 6 and 7 of the 3-bit register "are never held", so
the type has none (93_implementation_defined.md U14, log 4). -/
inductive Phase where
  | idle
  | awaitingSend
  | awaitingReply
  | decoded
  | failed
  deriving DecidableEq, Repr

/-- What a command answers: OK, an error kind, or REFUSED (10_state.md R27). Codes 8 to 14 "are never produced"
(30_encoding.md R74), so the type has none (log 4). -/
inductive Response where
  | ok
  | error (k : ErrorKind)
  | refused
  deriving DecidableEq, Repr

/-- What the last transaction gave back to the host (20_memory.md R40): the MODEL's own field (log 1). -/
inductive PortOut where
  /-- Reset and RegWrite return nothing. -/
  | nothing
  /-- RegRead returns a 64-bit value. -/
  | data (v : Word)
  /-- Cmd returns a response code. -/
  | code (r : Response)
  deriving DecidableEq, Repr

/-- The bytes of BUF that are not 0, by address; an unlisted byte reads 0 (10_state.md R20, R31, log 9). -/
abbrev Memory := List Host.Cell

/-- Everything the spec gives the block (10_state.md R10), and the host port's two fields (log 1). -/
@[ext]
structure State where
  /-- the eleven Packet registers -/
  pkt : Packet
  /-- the number of bytes BUF is said to hold (R21) -/
  buflen : BitVec 16
  /-- local send instant (R22) -/
  t1 : Word
  /-- server receive instant (R22) -/
  t2 : Word
  /-- server send instant (R22) -/
  t3 : Word
  /-- local receive instant (R22) -/
  t4 : Word
  /-- round-trip delay (R23) -/
  delta : Word
  /-- one-way network delay (R23) -/
  ndelay : Word
  /-- clock offset (R23) -/
  offset : Word
  /-- last converted timestamp (R24) -/
  tsi : Word
  /-- state of the request state machine (R25) -/
  phase : Phase
  /-- error slot of the exchange; "absence of error implies success" (R26) -/
  err : Option ErrorKind
  /-- response code of the last command (R27) -/
  rsp : Response
  /-- MODEL's own: host transactions not yet served, oldest first (R40, R50, log 1) -/
  port : List Transaction
  /-- MODEL's own: what the last transaction returned (R40, log 1) -/
  portOut : PortOut
  /-- the wire buffer BUF[0..47] (R20) -/
  buf : Memory
  deriving DecidableEq, Repr

/-- The model's faults: none. Nothing in the block traps (20_memory.md R46), hangs or stops (70_reset_and_hazards.md R196);
every error the spec names is a next state. No one raises it. -/
inductive Fault where
  deriving DecidableEq, Repr

/-- The model's refusals. The spec's own REFUSED is a response code and a next state (30_encoding.md R76), never one of these. -/
inductive Refusal where
  /-- raised by an arm of exec whose instruction has no meaning yet: no arm does. Safe. -/
  | notModelled (mnemonic : String)
  deriving DecidableEq, Repr

/-- The outcome of one step. -/
abbrev Result := Host.Outcome State Fault Refusal

/-- A "zeroed Packet" (40_header_bits.md R90, 10_state.md R31). -/
def Packet.zero : Packet where
  lvm := 0
  stratum := 0
  poll := 0
  precision := 0
  rootdelay := 0
  rootdisp := 0
  refid := 0
  refts := 0
  orgts := 0
  rxts := 0
  txts := 0

/-- The state after Reset: "every register holds zero" (10_state.md R31); no transaction is pending and nothing has been
returned (DESIGN CHOICE, log 1 and 2). -/
def State.reset : State where
  pkt := Packet.zero
  buflen := 0
  t1 := 0
  t2 := 0
  t3 := 0
  t4 := 0
  delta := 0
  ndelay := 0
  offset := 0
  tsi := 0
  phase := .idle
  err := none
  rsp := .ok
  port := []
  portOut := .nothing
  buf := []

end Sys2Proof.Machine
end

