-- ==== Sys2Proof/Machine/Ops.lean ====
section
/-! DEFINITION. The named operations over the buffer and the registers: byte access, big-endian access, one setter per
register group, answering a command, refusing one, taking a failure, and starting a fresh instance. -/

namespace Sys2Proof.Machine

/-! ## The wire buffer -/

/-- `BUF[a]`; an unlisted byte holds its reset contents, 0 (10_state.md R20, R31). -/
def Memory.read : Memory → Nat → Byte
  | [], _ => 0
  | (b, v) :: rest, a => if b = a then v else Memory.read rest a

/-- Puts a byte at an address in the canonical list; a zero byte is not listed. -/
def Memory.put : Memory → Nat → Byte → Memory
  | [], a, v => if v = 0 then [] else [(a, v)]
  | (b, x) :: rest, a, v =>
    if a < b then (if v = 0 then (b, x) :: rest else (a, v) :: (b, x) :: rest)
    else if a = b then (if v = 0 then rest else (a, v) :: rest)
    else (b, x) :: Memory.put rest a v

/-- `BUF[a] <- v`. BUF is the 48 bytes 0..47 (10_state.md R20); no access lies outside them (20_memory.md R46), and there is
no byte there to write (log 9). -/
def Memory.write (m : Memory) (a : Nat) (v : Byte) : Memory :=
  if a < Config.packetBytes then m.put a v else m

/-- The canonical form: addresses strictly rising and inside BUF, no listed byte 0. Equal buffers are equal lists. -/
def Memory.wf : Memory → Bool
  | [] => true
  | (a, v) :: rest =>
    decide (a < Config.packetBytes) && (v != 0) && rest.all (fun c => decide (a < c.1)) && Memory.wf rest

/-- Consecutive byte writes, the first byte at the lowest address (20_memory.md R45). -/
def Memory.writeBytes : Memory → Nat → List Byte → Memory
  | m, _, [] => m
  | m, a, b :: bs => Memory.writeBytes (m.write a b) (a + 1) bs

/-- `MemRead(a, 1)` (20_memory.md R45). -/
def Memory.load1 (m : Memory) (a : Nat) : Byte :=
  m.read a

/-- `MemRead(a, 4)`: "the byte at the lowest address being the most significant" (20_memory.md R45). -/
def Memory.load4 (m : Memory) (a : Nat) : Half :=
  m.read a ++ m.read (a + 1) ++ m.read (a + 2) ++ m.read (a + 3)

/-- `MemRead(a, 8)` (20_memory.md R45). -/
def Memory.load8 (m : Memory) (a : Nat) : Word :=
  m.read a ++ m.read (a + 1) ++ m.read (a + 2) ++ m.read (a + 3) ++
    m.read (a + 4) ++ m.read (a + 5) ++ m.read (a + 6) ++ m.read (a + 7)

/-- The bytes of a 32-bit value, most significant first (20_memory.md R45). -/
def bytes4 (v : Half) : List Byte :=
  [v.extractLsb' 24 8, v.extractLsb' 16 8, v.extractLsb' 8 8, v.extractLsb' 0 8]

/-- The bytes of a 64-bit value, most significant first (20_memory.md R45). -/
def bytes8 (v : Word) : List Byte :=
  [v.extractLsb' 56 8, v.extractLsb' 48 8, v.extractLsb' 40 8, v.extractLsb' 32 8,
    v.extractLsb' 24 8, v.extractLsb' 16 8, v.extractLsb' 8 8, v.extractLsb' 0 8]

/-- `MemWrite(a, 1, v)` (20_memory.md R45). -/
def Memory.store1 (m : Memory) (a : Nat) (v : Byte) : Memory :=
  m.write a v

/-- `MemWrite(a, 4, v)` (20_memory.md R45). -/
def Memory.store4 (m : Memory) (a : Nat) (v : Half) : Memory :=
  m.writeBytes a (bytes4 v)

/-- `MemWrite(a, 8, v)` (20_memory.md R45). -/
def Memory.store8 (m : Memory) (a : Nat) (v : Word) : Memory :=
  m.writeBytes a (bytes8 v)

/-! ## Register updates -/

/-- Writes the eleven Packet registers. -/
def State.setPkt (s : State) (p : Packet) : State := { s with pkt := p }

/-- Writes the LI/VN/Mode byte. -/
def State.setLvm (s : State) (b : Byte) : State := { s with pkt := { s.pkt with lvm := b } }

/-- Writes the buffer. -/
def State.setBuf (s : State) (m : Memory) : State := { s with buf := m }

/-- Writes BUFLEN. -/
def State.setBuflen (s : State) (n : BitVec 16) : State := { s with buflen := n }

/-- Writes the buffer and its length at once: PACK and REQ write both (41_serdes.md R101). -/
def State.setBuffer (s : State) (m : Memory) (n : BitVec 16) : State := { s with buf := m, buflen := n }

/-- Writes T1. -/
def State.setT1 (s : State) (v : Word) : State := { s with t1 := v }

/-- Writes T2. -/
def State.setT2 (s : State) (v : Word) : State := { s with t2 := v }

/-- Writes T3. -/
def State.setT3 (s : State) (v : Word) : State := { s with t3 := v }

/-- Writes T4. -/
def State.setT4 (s : State) (v : Word) : State := { s with t4 := v }

/-- Writes the three results of the estimator. -/
def State.setResults (s : State) (delta ndelay offset : Word) : State :=
  { s with delta := delta, ndelay := ndelay, offset := offset }

/-- Writes TSI. -/
def State.setTsi (s : State) (v : Word) : State := { s with tsi := v }

/-- `PHASE <- p` (00_scope.md section 5.2). -/
def State.setPhase (s : State) (p : Phase) : State := { s with phase := p }

/-- Writes ERR. -/
def State.setErr (s : State) (e : Option ErrorKind) : State := { s with err := e }

/-- The value a transaction returns to the host (20_memory.md R40). -/
def State.setPortOut (s : State) (o : PortOut) : State := { s with portOut := o }

/-- The transactions still pending (log 1). -/
def State.setPort (s : State) (q : List Transaction) : State := { s with port := q }

/-! ## Answering, failing, starting afresh -/

/-- "Every `Cmd` transaction writes" RSP, "and the same value is the transaction's return value" (10_state.md R27). -/
def State.respond (s : State) (r : Response) : State := { s with rsp := r, portOut := .code r }

/-- `refuse`: RSP <- 15 "and no other change of state" (00_scope.md section 5.2, 30_encoding.md R76, 60_exceptions.md R159). -/
def State.refuse (s : State) : State := s.respond .refused

/-- `raise Kind` of a primitive command: RSP only (44_exchange.md R139). -/
def State.raise (s : State) (k : ErrorKind) : State := s.respond (.error k)

/-- "Trap entry": `ERR <- kind`, `PHASE <- Failed`, and the response, which is the kind for REQ and REPLY and 0 for ABORT.
"Nothing is saved" (60_exceptions.md R161). -/
def State.takeFailure (s : State) (k : ErrorKind) (r : Response) : State :=
  ((s.setPhase .failed).setErr (some k)).respond r

/-- There is no return from a failure; "the only way forward is `NEW` (or `Reset`)" (60_exceptions.md R162), which give every
register its reset value (10_state.md R31). The host's pending transactions are no register and stay (log 1). -/
def State.freshInstance (s : State) : State :=
  (State.reset.setPort s.port).setPortOut s.portOut

end Sys2Proof.Machine
end

