-- ==== Sys2Proof/Machine/Operands.lean ====
section
/-! DEFINITION. The operands of the commands and transactions: the fields of LVM and their setters, the version check, the
selected timestamp register, and the register map of the host port with its reads and writes. -/

namespace Sys2Proof.Machine

/-! ## The LI/VN/Mode byte -/

/-- `LI = b[7:6]` (40_header_bits.md R93). -/
def li (b : Byte) : BitVec 2 := b.extractLsb' 6 2

/-- `VN = b[5:3]` (40_header_bits.md R93). -/
def vn (b : Byte) : BitVec 3 := b.extractLsb' 3 3

/-- `MODE = b[2:0]` (40_header_bits.md R93). -/
def mode (b : Byte) : BitVec 3 := b.extractLsb' 0 3

/-- `set_mode(b, m) = (b & 0xF8) | m` (40_header_bits.md R91). -/
def setMode (b : Byte) (m : BitVec 3) : Byte := (b &&& 0xF8) ||| m.setWidth 8

/-- `set_version(b, v) = (b & 0xC7) | (v << 3)` (40_header_bits.md R92). -/
def setVersion (b : Byte) (v : Byte) : Byte := (b &&& 0xC7) ||| (v <<< 3)

/-- The version test of REQ and SETVER: on the whole 8-bit operand (60_exceptions.md R151, 00_scope.md R3). -/
def legalVersion (v : Byte) : Bool := Config.requestVersions.contains v

/-- The Packet REQ builds: zeroed, then mode client, then the version (44_exchange.md R132). -/
def requestPacket (v : Byte) : Packet :=
  { Packet.zero with lvm := setVersion (setMode Packet.zero.lvm Config.clientMode) v }

/-- The length test of UNPACK and REPLY: BUFLEN = 48 and no other value (41_serdes.md R102). -/
def holdsPacket (s : State) : Bool := s.buflen == BitVec.ofNat 16 Config.packetBytes

/-- The timestamp register TS2I selects (42_timestamp.md R111). -/
def tsValue (p : Packet) : TsReg → Word
  | .refts => p.refts
  | .orgts => p.orgts
  | .rxts => p.rxts
  | .txts => p.txts

/-! ## The register map -/

/-- The address of a register (20_memory.md R42). -/
def regAddress : RegName → Nat
  | .buf i => i.val
  | .buflen => 0x30
  | .lvm => 0x40
  | .stratum => 0x41
  | .poll => 0x42
  | .precision => 0x43
  | .rootdelay => 0x44
  | .rootdisp => 0x45
  | .refid => 0x46
  | .refts => 0x47
  | .orgts => 0x48
  | .rxts => 0x49
  | .txts => 0x4A
  | .t1 => 0x50
  | .t2 => 0x51
  | .t3 => 0x52
  | .t4 => 0x53
  | .delta => 0x54
  | .ndelay => 0x55
  | .offset => 0x56
  | .tsi => 0x57
  | .phase => 0x60
  | .err => 0x61
  | .rsp => 0x62

/-- The registers above BUF (20_memory.md R42). -/
def namedRegisters : List RegName :=
  [.buflen, .lvm, .stratum, .poll, .precision, .rootdelay, .rootdisp, .refid, .refts, .orgts, .rxts, .txts,
    .t1, .t2, .t3, .t4, .delta, .ndelay, .offset, .tsi, .phase, .err, .rsp]

/-- The register mapped at an address; "every address not listed is unmapped" (20_memory.md R42). -/
def registerAt (a : RegAddr) : Option RegName :=
  if h : a.toNat < 48 then some (.buf ⟨a.toNat, h⟩)
  else namedRegisters.find? fun r => regAddress r == a.toNat

/-- The width of a register in bits (20_memory.md R42, 10_state.md R10). -/
def registerWidth : RegName → Nat
  | .buf _ => 8
  | .buflen => 16
  | .lvm => 8
  | .stratum => 8
  | .poll => 8
  | .precision => 8
  | .rootdelay => 32
  | .rootdisp => 32
  | .refid => 32
  | .refts => 64
  | .orgts => 64
  | .rxts => 64
  | .txts => 64
  | .t1 => 64
  | .t2 => 64
  | .t3 => 64
  | .t4 => 64
  | .delta => 64
  | .ndelay => 64
  | .offset => 64
  | .tsi => 64
  | .phase => 3
  | .err => 4
  | .rsp => 4

/-- The host's right to write a register (20_memory.md R42, column "host access"). -/
def hostWritable : RegName → Bool
  | .delta => false
  | .ndelay => false
  | .offset => false
  | .tsi => false
  | .phase => false
  | .err => false
  | .rsp => false
  | .buf _ => true
  | .buflen => true
  | .lvm => true
  | .stratum => true
  | .poll => true
  | .precision => true
  | .rootdelay => true
  | .rootdisp => true
  | .refid => true
  | .refts => true
  | .orgts => true
  | .rxts => true
  | .txts => true
  | .t1 => true
  | .t2 => true
  | .t3 => true
  | .t4 => true

/-- `x[R] <- v[W-1:0]` for a register the host may write; "bits of `v` above `W-1` are ignored"; a read-only register keeps
its value (20_memory.md R44). -/
def writeRegister (s : State) (r : RegName) (v : Word) : State :=
  match r with
  | .buf i => s.setBuf (s.buf.write i.val (v.setWidth 8))
  | .buflen => s.setBuflen (v.setWidth 16)
  | .lvm => s.setPkt { s.pkt with lvm := v.setWidth 8 }
  | .stratum => s.setPkt { s.pkt with stratum := v.setWidth 8 }
  | .poll => s.setPkt { s.pkt with poll := v.setWidth 8 }
  | .precision => s.setPkt { s.pkt with precision := v.setWidth 8 }
  | .rootdelay => s.setPkt { s.pkt with rootdelay := v.setWidth 32 }
  | .rootdisp => s.setPkt { s.pkt with rootdisp := v.setWidth 32 }
  | .refid => s.setPkt { s.pkt with refid := v.setWidth 32 }
  | .refts => s.setPkt { s.pkt with refts := v }
  | .orgts => s.setPkt { s.pkt with orgts := v }
  | .rxts => s.setPkt { s.pkt with rxts := v }
  | .txts => s.setPkt { s.pkt with txts := v }
  | .t1 => s.setT1 v
  | .t2 => s.setT2 v
  | .t3 => s.setT3 v
  | .t4 => s.setT4 v
  | .delta => s
  | .ndelay => s
  | .offset => s
  | .tsi => s
  | .phase => s
  | .err => s
  | .rsp => s

end Sys2Proof.Machine
end

