-- ==== Sys2Proof/Machine/Flags.lean ====
section
/-! DEFINITION. The status the block has. There are no arithmetic flags and no condition codes (10_state.md section 5): the
status is PHASE, ERR and RSP. Here stand their numbers, the acceptance of a command by phase, and what the host reads. -/

namespace Sys2Proof.Machine

/-- PHASE's encoding (10_state.md R25). -/
def Phase.code : Phase → BitVec 3
  | .idle => 0
  | .awaitingSend => 1
  | .awaitingReply => 2
  | .decoded => 3
  | .failed => 4

/-- ERR's encoding: 0 no error, else the kind (10_state.md R26). -/
def errCode : Option ErrorKind → BitVec 4
  | none => 0
  | some k => k.code

/-- RSP's encoding (10_state.md R27, 30_encoding.md R74). -/
def Response.code : Response → BitVec 4
  | .ok => 0
  | .error k => k.code
  | .refused => 15

/-- The acceptance table of the exchange commands (44_exchange.md R130); primitive commands are accepted in every phase
(R139). -/
def accepts : Instr → Phase → Bool
  | .new, .idle => true
  | .new, .awaitingSend => false
  | .new, .awaitingReply => false
  | .new, .decoded => true
  | .new, .failed => true
  | .req _, .idle => true
  | .req _, .awaitingSend => false
  | .req _, .awaitingReply => false
  | .req _, .decoded => false
  | .req _, .failed => false
  | .sent, .idle => false
  | .sent, .awaitingSend => true
  | .sent, .awaitingReply => false
  | .sent, .decoded => false
  | .sent, .failed => false
  | .reply, .idle => false
  | .reply, .awaitingSend => false
  | .reply, .awaitingReply => true
  | .reply, .decoded => false
  | .reply, .failed => false
  | .abort _, .idle => true
  | .abort _, .awaitingSend => true
  | .abort _, .awaitingReply => true
  | .abort _, .decoded => false
  | .abort _, .failed => false
  | .clrpkt, _ => true
  | .setmode _, _ => true
  | .setver _, _ => true
  | .pack, _ => true
  | .unpack, _ => true
  | .ts2i _, _ => true
  | .calculate, _ => true

/-- `zext_64(x[R])` "whatever its width" (20_memory.md R43). -/
def readRegister (s : State) : RegName → Word
  | .buf i => (s.buf.read i.val).setWidth 64
  | .buflen => s.buflen.setWidth 64
  | .lvm => s.pkt.lvm.setWidth 64
  | .stratum => s.pkt.stratum.setWidth 64
  | .poll => s.pkt.poll.setWidth 64
  | .precision => s.pkt.precision.setWidth 64
  | .rootdelay => s.pkt.rootdelay.setWidth 64
  | .rootdisp => s.pkt.rootdisp.setWidth 64
  | .refid => s.pkt.refid.setWidth 64
  | .refts => s.pkt.refts
  | .orgts => s.pkt.orgts
  | .rxts => s.pkt.rxts
  | .txts => s.pkt.txts
  | .t1 => s.t1
  | .t2 => s.t2
  | .t3 => s.t3
  | .t4 => s.t4
  | .delta => s.delta
  | .ndelay => s.ndelay
  | .offset => s.offset
  | .tsi => s.tsi
  | .phase => s.phase.code.setWidth 64
  | .err => (errCode s.err).setWidth 64
  | .rsp => s.rsp.code.setWidth 64

end Sys2Proof.Machine
end

