-- ==== Sys2Proof/Machine/Header.lean ====
section
/-! DEFINITION. CLRPKT, SETMODE, SETVER (40_header_bits.md R90 to R92). -/

namespace Sys2Proof.Machine

/-- CLRPKT zeroes the Packet (R90). -/
def execClrpkt (s : State) : Result :=
  .next ((s.setPkt Packet.zero).respond .ok)

/-- SETMODE writes the mode field and preserves the other five bits; all eight values are accepted (R91). -/
def execSetmode (m : BitVec 3) (s : State) : Result :=
  .next ((s.setLvm (setMode s.pkt.lvm m)).respond .ok)

/-- SETVER validates, then writes the version field and preserves the other five bits (R92). -/
def execSetver (v : BitVec 8) (s : State) : Result :=
  if legalVersion v then .next ((s.setLvm (setVersion s.pkt.lvm v)).respond .ok)
  else .next (s.raise .invalidVersion)

end Sys2Proof.Machine
end

