-- ==== Sys2Proof/Machine/Offset.lean ====
section
/-! DEFINITION. The offset and delay calculator: sdiv2, calc and CALC (43_offset.md R120 to R123). -/

namespace Sys2Proof.Machine

/-- `sdiv2(d)`: the signed quotient by 2 rounded toward zero; "it cannot overflow" (00_scope.md section 5.2, 43_offset.md R123). -/
def sdiv2 (d : Word) : Word := BitVec.ofInt 64 (d.toInt.tdiv 2)

/-- `delta = (T4 - T1) - (T3 - T2)`, modulo 2^64 (43_offset.md R120; outside R124's range see log 5). -/
def calcDelta (s : State) : Word := (s.t4 - s.t1) - (s.t3 - s.t2)

/-- `off = (T2 - T1) - nd`, modulo 2^64: the one-sided form (43_offset.md R120, R125). -/
def calcOffset (s : State) : Word := (s.t2 - s.t1) - sdiv2 (calcDelta s)

/-- `calc()`: reads T1..T4, writes DELTA, NDELAY, OFFSET and nothing else (43_offset.md R120). -/
def State.calc (s : State) : State :=
  s.setResults (calcDelta s) (sdiv2 (calcDelta s)) (calcOffset s)

/-- CALC runs the estimator on the four instant registers (43_offset.md R121). -/
def execCalc (s : State) : Result :=
  .next (s.calc.respond .ok)

end Sys2Proof.Machine
end

