-- ==== Sys2Proof/Machine/Serdes.lean ====
section
/-! DEFINITION. The serializer and deserializer: pack, unpack, PACK, UNPACK (41_serdes.md R100 to R106). -/

namespace Sys2Proof.Machine

/-- `pack()`: the eleven Packet registers into BUF, big-endian, in the fixed field order (41_serdes.md R100; offsets
30_encoding.md R60). -/
def pack (p : Packet) (m : Memory) : Memory :=
  let m := m.store1 0 p.lvm
  let m := m.store1 1 p.stratum
  let m := m.store1 2 p.poll
  let m := m.store1 3 p.precision
  let m := m.store4 4 p.rootdelay
  let m := m.store4 8 p.rootdisp
  let m := m.store4 12 p.refid
  let m := m.store8 16 p.refts
  let m := m.store8 24 p.orgts
  let m := m.store8 32 p.rxts
  m.store8 40 p.txts

/-- `unpack()`: the eleven Packet registers from BUF, "in the same fixed order" (41_serdes.md R103). -/
def unpack (m : Memory) : Packet where
  lvm := m.load1 0
  stratum := m.load1 1
  poll := m.load1 2
  precision := m.load1 3
  rootdelay := m.load4 4
  rootdisp := m.load4 8
  refid := m.load4 12
  refts := m.load8 16
  orgts := m.load8 24
  rxts := m.load8 32
  txts := m.load8 40

/-- `pack(); x[BUFLEN] <- 48`, the common part of PACK (R101) and REQ (44_exchange.md R132). -/
def State.serialize (s : State) : State :=
  s.setBuffer (pack s.pkt s.buf) (BitVec.ofNat 16 Config.packetBytes)

/-- PACK serializes the Packet (R101). -/
def execPack (s : State) : Result :=
  .next (s.serialize.respond .ok)

/-- UNPACK deserializes the buffer if it holds a packet (R102, R106). -/
def execUnpack (s : State) : Result :=
  if holdsPacket s then .next ((s.setPkt (unpack s.buf)).respond .ok)
  else .next (s.raise .malformedPacket)

end Sys2Proof.Machine
end

