-- ==== Sys2Proof/Machine/Timestamp.lean ====
section
/-! DEFINITION. The timestamp unmarshaller: instant and TS2I (42_timestamp.md R110, R111). -/

namespace Sys2Proof.Machine

/-- `.sec`, bits 63:32, read as unsigned (10_state.md R18, R19). -/
def tsSeconds (ts : Word) : Word := (ts.extractLsb' 32 32).setWidth 64

/-- `.frac`, bits 31:0, read as unsigned (10_state.md R18, R19). -/
def tsFraction (ts : Word) : Word := (ts.extractLsb' 0 32).setWidth 64

/-- `instant(ts)`: `sec × 10^9 + ((frac × 10^9) >> 32)` in 64-bit unsigned arithmetic, truncating (42_timestamp.md R110). -/
def instant (ts : Word) : Word :=
  tsSeconds ts * Config.nsPerSecond + ((tsFraction ts * Config.nsPerSecond) >>> 32)

/-- TS2I places the selected timestamp's instant in TSI (42_timestamp.md R111). -/
def execTs2i (sel : TsReg) (s : State) : Result :=
  .next ((s.setTsi (instant (tsValue s.pkt sel))).respond .ok)

end Sys2Proof.Machine
end

