-- ==== Sys2Proof/Machine/Exchange.lean ====
section
/-! DEFINITION. The exchange commands NEW, REQ, SENT, REPLY, ABORT and the request state machine (44_exchange.md R130 to
R135). Acceptance is tested first and the command's own check after it (60_exceptions.md R160). -/

namespace Sys2Proof.Machine

/-- NEW begins a fresh instance, where it is accepted (R131). -/
def execNew (s : State) : Result :=
  if accepts .new s.phase then .next (s.freshInstance.respond .ok)
  else .next s.refuse

/-- REQ builds the request for version `v` and moves Idle to AwaitingSend, or fails with InvalidVersion, writing neither the
Packet nor BUF nor BUFLEN (R132). -/
def execReq (v : BitVec 8) (s : State) : Result :=
  if accepts (.req v) s.phase then
    if legalVersion v then
      .next ((((s.setPkt (requestPacket v)).serialize).setPhase .awaitingSend).respond .ok)
    else .next (s.takeFailure .invalidVersion (.error .invalidVersion))
  else .next s.refuse

/-- SENT moves AwaitingSend to AwaitingReply (R133). -/
def execSent (s : State) : Result :=
  if accepts .sent s.phase then .next ((s.setPhase .awaitingReply).respond .ok)
  else .next s.refuse

/-- `unpack()`, then T2 and T3 from the reply's Receive and Transmit Timestamps (R134). -/
def State.decodeReply (s : State) : State :=
  let p := unpack s.buf
  ((s.setPkt p).setT2 (instant p.rxts)).setT3 (instant p.txts)

/-- REPLY decodes the reply, runs the estimator and moves AwaitingReply to Decoded, or fails with MalformedPacket, writing
neither the Packet nor an instant nor a result (R134). -/
def execReply (s : State) : Result :=
  if accepts .reply s.phase then
    if holdsPacket s then .next ((s.decodeReply.calc.setPhase .decoded).respond .ok)
    else .next (s.takeFailure .malformedPacket (.error .malformedPacket))
  else .next s.refuse

/-- ABORT records a failure the transport reports; "the command itself succeeded" (R135). A kind outside 2..6 is spelled by
no legal word; such a term is refused as its word is (30_encoding.md R76, log 10). -/
def execAbort (k : ErrorKind) (s : State) : Result :=
  if k.reportable && accepts (.abort k) s.phase then .next (s.takeFailure k .ok)
  else .next s.refuse

end Sys2Proof.Machine
end

