-- ==== Sys2Proof/Machine/Dispatch.lean ====
section
/-! DEFINITION. One arm per command, each a direct call of its meaning. -/

namespace Sys2Proof.Machine

def exec (i : Instr) (s : State) : Host.Outcome State Fault Refusal :=
  match i with
  | .new => Sys2Proof.Machine.execNew s
  | .req v => Sys2Proof.Machine.execReq v s
  | .sent => Sys2Proof.Machine.execSent s
  | .reply => Sys2Proof.Machine.execReply s
  | .abort k => Sys2Proof.Machine.execAbort k s
  | .clrpkt => Sys2Proof.Machine.execClrpkt s
  | .setmode m => Sys2Proof.Machine.execSetmode m s
  | .setver v => Sys2Proof.Machine.execSetver v s
  | .pack => Sys2Proof.Machine.execPack s
  | .unpack => Sys2Proof.Machine.execUnpack s
  | .ts2i r => Sys2Proof.Machine.execTs2i r s
  | .calculate => Sys2Proof.Machine.execCalc s

end Sys2Proof.Machine
end

