-- ==== Sys2Proof/Machine/Port.lean ====
section
/-! DEFINITION. The host port: the four kinds of transaction, and serving the pending ones in the order issued
(20_memory.md R40, R43, R44, R47, R50). -/

namespace Sys2Proof.Machine

/-- `Reset`: every register gets its reset value, in any phase, never refused; nothing is returned (70_reset_and_hazards.md
R180). -/
def serveReset (s : State) : Result :=
  .next (s.freshInstance.setPortOut .nothing)

/-- The value `RegRead(a)` returns; "`RegRead` of an unmapped address returns 0" (20_memory.md R43). -/
def readAddress (s : State) (a : RegAddr) : Word :=
  match registerAt a with
  | some r => readRegister s r
  | none => 0

/-- `RegRead` returns the register and changes no state of the block (20_memory.md R43). -/
def serveRegRead (a : RegAddr) (s : State) : Result :=
  .next (s.setPortOut (.data (readAddress s a)))

/-- The effect of `RegWrite(a, v)`: "to an unmapped address, changes nothing" (20_memory.md R44). -/
def writeAddress (s : State) (a : RegAddr) (v : Word) : State :=
  match registerAt a with
  | some r => writeRegister s r v
  | none => s

/-- `RegWrite` writes the addressed register and returns nothing (20_memory.md R44). -/
def serveRegWrite (a : RegAddr) (v : Word) (s : State) : Result :=
  .next ((writeAddress s a v).setPortOut .nothing)

/-- `Cmd(w)`: a legal word runs its command, an illegal one is refused (30_encoding.md R75, R76). -/
def serveCmd (w : CmdWord) (s : State) : Result :=
  match decode w with
  | .ok i => exec i s
  | .error _ => .next s.refuse

/-- One transaction's whole effect (20_memory.md R47). -/
def serve (t : Transaction) (s : State) : Result :=
  match t with
  | .reset => serveReset s
  | .regRead a => serveRegRead a s
  | .regWrite a v => serveRegWrite a v s
  | .cmd w => serveCmd w s

/-- One step: the oldest pending transaction is taken off the port and served (20_memory.md R50). With none pending the block
"holds its state and does nothing" (60_exceptions.md R168, log 3). -/
def serveNext (s : State) : Result :=
  match s.port with
  | [] => .next s
  | t :: rest => serve t (s.setPort rest)

/-- The host issues `Cmd(w)` as the next transaction to be served (log 2). -/
def State.issueCmd (s : State) (w : CmdWord) : State :=
  s.setPort (.cmd w :: s.port)

/-- The command word of the host's numbering; a number that spells no 16-bit word is cut to its low 16 bits (log 11). -/
def hostWord (nbits w : Nat) : CmdWord :=
  BitVec.ofNat 16 (w % 2 ^ nbits)

end Sys2Proof.Machine
end

