-- ==== Sys2Proof/Machine/Step.lean ====
section
/-! DEFINITION. One step of the machine, and placing a command word where the next step takes it. -/

namespace Sys2Proof.Machine

/-- One step serves one host transaction (20_memory.md R40, R47). -/
def step (s : State) : Host.Outcome State Fault Refusal :=
  Sys2Proof.Machine.serveNext s

/-- `s` with the command word issued as the very next transaction (log 2). -/
def State.withFetchWord (s : State) (nbits w : Nat) : State :=
  s.issueCmd (Sys2Proof.Machine.hostWord nbits w)

end Sys2Proof.Machine
end

