-- ==== Sys2Proof/Safety.lean ====
section
/-! DEFINITION. What counts as a safe state and a finished run, the frame of a command in groups of registers, and the spec's
tables in the form the statements use (the 384-bit packet, the exact conversion, illegal words, the transition table). -/

namespace Sys2Proof.Machine

/-! ## The invariant -/

/-- The codes RSP can hold: OK, InvalidVersion, MalformedPacket, REFUSED. Kinds 2 to 6 enter ERR only (60_exceptions.md R150,
columns "reported by" and "where recorded"). -/
def reportedByCommand : Response → Bool
  | .ok => true
  | .error .invalidVersion => true
  | .error .resolutionFailure => false
  | .error .connectFailure => false
  | .error .timeout => false
  | .error .writeFailure => false
  | .error .readFailure => false
  | .error .malformedPacket => true
  | .refused => true

/-- The states a run can reach satisfy this; every step keeps it. -/
structure State.Inv (s : State) : Prop where
  /-- BUF is in canonical form -/
  bufCanonical : s.buf.wf = true
  /-- "`ERR ≠ 0` if and only if `PHASE` = Failed" (10_state.md R26) -/
  errIffFailed : s.err.isSome = true ↔ s.phase = .failed
  /-- the results are those of one run of calc(): NDELAY is sdiv2 of DELTA (10_state.md R23, 43_offset.md R120) -/
  ndelayIsHalf : s.ndelay = sdiv2 s.delta
  /-- TSI holds a converted timestamp (10_state.md R24), at most INSTANT_MAX (42_timestamp.md R112) -/
  tsiInRange : s.tsi.toNat ≤ Config.instantMax
  /-- RSP holds a code a command can report (60_exceptions.md R150) -/
  rspReported : reportedByCommand s.rsp = true
  /-- a code returned on the port is the one in RSP (10_state.md R27) -/
  codeIsRsp : ∀ r, s.portOut = .code r → s.rsp = r

/-! ## The frame of a command, by group of registers -/

/-- The eleven Packet registers are unchanged. -/
def KeepsPacket (s t : State) : Prop := t.pkt = s.pkt

/-- Every byte of BUF and BUFLEN are unchanged. -/
def KeepsBuffer (s t : State) : Prop := (∀ a, t.buf.read a = s.buf.read a) ∧ t.buflen = s.buflen

/-- T1 to T4 are unchanged. -/
def KeepsInstants (s t : State) : Prop := t.t1 = s.t1 ∧ t.t2 = s.t2 ∧ t.t3 = s.t3 ∧ t.t4 = s.t4

/-- DELTA, NDELAY and OFFSET are unchanged. -/
def KeepsResults (s t : State) : Prop := t.delta = s.delta ∧ t.ndelay = s.ndelay ∧ t.offset = s.offset

/-- TSI is unchanged. -/
def KeepsTsi (s t : State) : Prop := t.tsi = s.tsi

/-- PHASE and ERR are unchanged. -/
def KeepsExchange (s t : State) : Prop := t.phase = s.phase ∧ t.err = s.err

/-- The pending transactions are unchanged. -/
def KeepsPort (s t : State) : Prop := t.port = s.port

/-- The command answered `r`: in RSP and as the returned value (10_state.md R27). -/
def Answers (r : Response) (t : State) : Prop := t.rsp = r ∧ t.portOut = .code r

/-! ## The packet as one string of bits -/

/-- The packet "as one 384-bit big-endian string" (30_encoding.md R60). -/
def packetString (p : Packet) : BitVec 384 :=
  p.lvm ++ p.stratum ++ p.poll ++ p.precision ++ p.rootdelay ++ p.rootdisp ++ p.refid ++ p.refts ++ p.orgts ++ p.rxts ++
    p.txts

/-- Byte `i` of the packet, byte 0 the most significant (30_encoding.md R60). -/
def packetByte (p : Packet) (i : Nat) : Byte := (packetString p).extractLsb' (8 * (47 - i)) 8

/-! ## Exact arithmetic -/

/-- The nanoseconds of a timestamp, in exact integers: `sec × 10^9 + floor(frac × 10^9 / 2^32)` (42_timestamp.md R110). -/
def timestampNs (ts : Word) : Nat :=
  ts.toNat / 2 ^ 32 * 1000000000 + ts.toNat % 2 ^ 32 * 1000000000 / 2 ^ 32

/-- An instant in the host's legal range 0..INSTANT_MAX (70_reset_and_hazards.md R192). -/
def InRange (v : Word) : Prop := 0 ≤ v.toInt ∧ v.toInt ≤ 4294967295999999999

/-- T1 to T4 all lie in the legal range (43_offset.md R124). -/
def InstantsInRange (s : State) : Prop := InRange s.t1 ∧ InRange s.t2 ∧ InRange s.t3 ∧ InRange s.t4

/-! ## Illegal words, as the spec lists them -/

/-- "The illegal words" of 30_encoding.md R76, item by item. -/
def IsIllegal (w : CmdWord) : Prop :=
  let op := w.extractLsb' 8 8
  let arg := w.extractLsb' 0 8
  op ∉ [0x01#8, 0x02#8, 0x03#8, 0x04#8, 0x05#8, 0x10#8, 0x11#8, 0x12#8, 0x13#8, 0x14#8, 0x20#8, 0x21#8] ∨
    (op ∈ [0x01#8, 0x03#8, 0x04#8, 0x10#8, 0x13#8, 0x14#8, 0x21#8] ∧ arg ≠ 0) ∨
    (op = 0x11 ∧ arg.extractLsb' 3 5 ≠ 0) ∨
    (op = 0x20 ∧ arg.extractLsb' 2 6 ≠ 0) ∨
    (op = 0x05 ∧ (arg.extractLsb' 4 4 ≠ 0 ∨ arg.extractLsb' 0 4 ∉ [2#4, 3#4, 4#4, 5#4, 6#4]))

/-! ## The state machine -/

/-- The exchange commands: they move the state machine (00_scope.md glossary). -/
def isExchange : Instr → Bool
  | .new => true
  | .req _ => true
  | .sent => true
  | .reply => true
  | .abort _ => true
  | .clrpkt => false
  | .setmode _ => false
  | .setver _ => false
  | .pack => false
  | .unpack => false
  | .ts2i _ => false
  | .calculate => false

/-- The transition table of 44_exchange.md R138, row by row: from the phase, ERR, BUFLEN and the command to the next phase,
ERR and RSP. The last row (a primitive command) leaves RSP to the command's own rule. -/
inductive Transition : Phase → Option ErrorKind → BitVec 16 → Instr → Phase → Option ErrorKind → Response → Prop
  | newIdle (e n) : Transition .idle e n .new .idle none .ok
  | reqLegal (e n v) : v = 3 ∨ v = 4 → Transition .idle e n (.req v) .awaitingSend e .ok
  | reqIllegal (e n v) : v ≠ 3 → v ≠ 4 → Transition .idle e n (.req v) .failed (some .invalidVersion) (.error .invalidVersion)
  | abortIdle (e n k) : k.reportable = true → Transition .idle e n (.abort k) .failed (some k) .ok
  | sent (e n) : Transition .awaitingSend e n .sent .awaitingReply e .ok
  | abortSend (e n k) : k.reportable = true → Transition .awaitingSend e n (.abort k) .failed (some k) .ok
  | reply (e) : Transition .awaitingReply e 48 .reply .decoded e .ok
  | replyLength (e n) : n ≠ 48 →
      Transition .awaitingReply e n .reply .failed (some .malformedPacket) (.error .malformedPacket)
  | abortReply (e n k) : k.reportable = true → Transition .awaitingReply e n (.abort k) .failed (some k) .ok
  | newDecoded (e n) : Transition .decoded e n .new .idle none .ok
  | newFailed (e n) : Transition .failed e n .new .idle none .ok
  | refused (p e n i) : isExchange i = true → accepts i p = false → Transition p e n i p e .refused
  | primitive (p e n i r) : isExchange i = false → r = .ok ∨ r = .error .invalidVersion ∨ r = .error .malformedPacket →
      Transition p e n i p e r

/-- How far an exchange has come: no transition leads to a lower rank but the start of a new instance (44_exchange.md R137). -/
def Phase.rank : Phase → Nat
  | .idle => 0
  | .awaitingSend => 1
  | .awaitingReply => 2
  | .decoded => 3
  | .failed => 3

/-- "Terminal states: `Decoded`, `Failed`" (44_exchange.md R136). -/
def Phase.terminal : Phase → Bool
  | .idle => false
  | .awaitingSend => false
  | .awaitingReply => false
  | .decoded => true
  | .failed => true

/-- The transaction the next step serves is `Reset` or `Cmd(NEW)`. -/
def StartsFresh (s : State) : Prop :=
  (∃ rest, s.port = .reset :: rest) ∨ (∃ rest, s.port = .cmd 0x0100 :: rest)

/-! ## The end of a run -/

/-- The Response: L, R, offset, stratum, error; "no storage of its own" (10_state.md R28). -/
structure ResponseView where
  localSend : Word
  remoteReceive : Word
  offset : Word
  stratum : Byte
  error : Option ErrorKind
  deriving DecidableEq, Repr

/-- How a run stands (44_exchange.md R140). -/
inductive RunOutcome where
  /-- PHASE is Idle, AwaitingSend or AwaitingReply: the run is not over. -/
  | notOver
  /-- PHASE is Decoded: the result is the Response. -/
  | success (r : ResponseView)
  /-- PHASE is Failed: "the only meaningful output is `ERR`" (60_exceptions.md R170). -/
  | failure (e : Option ErrorKind)
  deriving DecidableEq, Repr

/-- The registers the Response is a view of (10_state.md R28). -/
def State.responseView (s : State) : ResponseView where
  localSend := s.t1
  remoteReceive := s.t2
  offset := s.offset
  stratum := s.pkt.stratum
  error := s.err

/-- The end of a run, read from PHASE (44_exchange.md R140). -/
def State.runOutcome (s : State) : RunOutcome :=
  match s.phase with
  | .idle => .notOver
  | .awaitingSend => .notOver
  | .awaitingReply => .notOver
  | .decoded => .success s.responseView
  | .failed => .failure s.err

end Sys2Proof.Machine
end

