-- ==== Sys2Proof/Certificates/Slice0/Obligations.lean ====
section
/-! DEFINITION. The statements for the provers. Each docstring names the rules of spec/ it formalises; a clause that rests on a
choice of the model's or on an inference the spec marks as its own ("derived") says so. -/

open Sys2Proof Sys2Proof.Machine

/-! ## Encoding -/

/-- Words written out from 30_encoding.md R71, one or more per family, decode to the commands they spell; four words the spec
calls illegal (95_test_vectors.md E1, E9, E12, E22) decode to none. -/
def Obligations.SpecWordsDecodeAsListed : Prop :=
  decode 0b0000000100000000 = .ok .new ∧ decode 0b0000001000000100 = .ok (.req 4) ∧
    decode 0b0000010100000100 = .ok (.abort .timeout) ∧ decode 0b0001000100000111 = .ok (.setmode 7) ∧
    decode 0b0001010000000000 = .ok .unpack ∧ decode 0b0010000000000011 = .ok (.ts2i .txts) ∧
    decode 0b0010000100000000 = .ok .calculate ∧ decode 0x0000 = .error .unassignedOpcode ∧
    decode 0x0507 = .error .abortKind ∧ decode 0x0514 = .error .reservedBits ∧ decode 0x2004 = .error .reservedBits

/-- Decoding the word of any well-formed command gives the command back (30_encoding.md R70 to R75). -/
def Obligations.DecodeInvertsEncode : Prop :=
  ∀ i : Instr, i.wellFormed = true → decode (encode i) = .ok i

/-- A word that decodes spells one well-formed command, whose word it is: "no word spells two commands" (30_encoding.md R75). -/
def Obligations.EncodeInvertsDecode : Prop :=
  ∀ (w : CmdWord) (i : Instr), decode w = .ok i → encode i = w ∧ i.wellFormed = true

/-- The opcode map row by row: a word spells a command exactly under the row's match and mask, with the operand in the low
bits, and ABORT further restricted to the kinds 2 to 6 (30_encoding.md R71, R72, R73). -/
def Obligations.WordSpellsRowUnderMatchAndMask : Prop :=
  ∀ w : CmdWord,
    (decode w = .ok .new ↔ w &&& 0xFFFF = 0x0100) ∧
    (∀ v, decode w = .ok (.req v) ↔ w &&& 0xFF00 = 0x0200 ∧ v = w.extractLsb' 0 8) ∧
    (decode w = .ok .sent ↔ w &&& 0xFFFF = 0x0300) ∧
    (decode w = .ok .reply ↔ w &&& 0xFFFF = 0x0400) ∧
    (∀ k, decode w = .ok (.abort k) ↔
      w &&& 0xFFF0 = 0x0500 ∧ k.code = w.extractLsb' 0 4 ∧ 2 ≤ k.code.toNat ∧ k.code.toNat ≤ 6) ∧
    (decode w = .ok .clrpkt ↔ w &&& 0xFFFF = 0x1000) ∧
    (∀ m, decode w = .ok (.setmode m) ↔ w &&& 0xFFF8 = 0x1100 ∧ m = w.extractLsb' 0 3) ∧
    (∀ v, decode w = .ok (.setver v) ↔ w &&& 0xFF00 = 0x1200 ∧ v = w.extractLsb' 0 8) ∧
    (decode w = .ok .pack ↔ w &&& 0xFFFF = 0x1300) ∧
    (decode w = .ok .unpack ↔ w &&& 0xFFFF = 0x1400) ∧
    (∀ r, decode w = .ok (.ts2i r) ↔ w &&& 0xFFFC = 0x2000 ∧
      r = (if w.extractLsb' 0 2 = 0 then .refts else if w.extractLsb' 0 2 = 1 then .orgts
        else if w.extractLsb' 0 2 = 2 then .rxts else .txts)) ∧
    (decode w = .ok .calculate ↔ w &&& 0xFFFF = 0x2100)

/-- Exactly the words the spec lists as illegal spell no command; a step that is handed one, or a legal exchange command in a
phase that does not accept it, writes 15 to RSP, returns it, and changes nothing else (30_encoding.md R76). -/
def Obligations.IllegalWordsAreRefused : Prop :=
  Response.refused.code = 15 ∧
    (∀ w : CmdWord, (∃ i, decode w = .ok i) ↔ ¬ IsIllegal w) ∧
    ∀ (s : State) (w : CmdWord) (rest : List Transaction), s.port = .cmd w :: rest →
      (IsIllegal w ∨ ∃ i, decode w = .ok i ∧ accepts i s.phase = false) →
      step s = .next { s with port := rest, rsp := .refused, portOut := .code .refused }

/-! ## Steps and register transactions -/

/-- A step whose oldest transaction is a command word that spells `i` is `exec i` after that transaction is taken off the
port; a word placed by `withFetchWord` is the one the next step runs (the model's port: log 1 and 2). -/
def Obligations.StepRunsDecodedCommand : Prop :=
  (∀ (s : State) (w : CmdWord) (i : Instr) (rest : List Transaction), s.port = .cmd w :: rest → decode w = .ok i →
      step s = exec i { s with port := rest }) ∧
    ∀ (s : State) (w : Nat) (i : Instr), w < 2 ^ 16 → decodeTableWord 16 w = some i →
      step (s.withFetchWord 16 w) = exec i s

/-- Every step of every state answers a next state and takes exactly the oldest transaction off the port: "every transaction
completes" (70_reset_and_hazards.md R196), "in the order the host issues them, one at a time" (20_memory.md R50). -/
def Obligations.StepServesOneTransactionAndCompletes : Prop :=
  ∀ s : State, ∃ t, step s = .next t ∧ t.port = s.port.tail

/-- With no transaction pending nothing changes: "no state of the block changes except as the effect of" a transaction
(20_memory.md R40; that a step is then possible at all is the model's choice, log 3). -/
def Obligations.EmptyPortHoldsState : Prop :=
  ∀ s : State, s.port = [] → step s = .next s

/-- RegRead returns the register the map names, zero-extended, 0 where nothing is mapped, and changes no register
(20_memory.md R42, R43; the status codes are those of 10_state.md R25, R26, R27). -/
def Obligations.RegReadReturnsMappedRegister : Prop :=
  (∀ (s : State) (a : RegAddr) (rest : List Transaction), s.port = .regRead a :: rest →
      step s = .next { s with port := rest, portOut := .data (readAddress s a) }) ∧
    ∀ s : State,
      (∀ i, i < 48 → readAddress s (BitVec.ofNat 8 i) = (s.buf.read i).setWidth 64) ∧
      readAddress s 0x30 = s.buflen.setWidth 64 ∧
      readAddress s 0x40 = s.pkt.lvm.setWidth 64 ∧
      readAddress s 0x41 = s.pkt.stratum.setWidth 64 ∧
      readAddress s 0x42 = s.pkt.poll.setWidth 64 ∧
      readAddress s 0x43 = s.pkt.precision.setWidth 64 ∧
      readAddress s 0x44 = s.pkt.rootdelay.setWidth 64 ∧
      readAddress s 0x45 = s.pkt.rootdisp.setWidth 64 ∧
      readAddress s 0x46 = s.pkt.refid.setWidth 64 ∧
      readAddress s 0x47 = s.pkt.refts ∧
      readAddress s 0x48 = s.pkt.orgts ∧
      readAddress s 0x49 = s.pkt.rxts ∧
      readAddress s 0x4A = s.pkt.txts ∧
      readAddress s 0x50 = s.t1 ∧
      readAddress s 0x51 = s.t2 ∧
      readAddress s 0x52 = s.t3 ∧
      readAddress s 0x53 = s.t4 ∧
      readAddress s 0x54 = s.delta ∧
      readAddress s 0x55 = s.ndelay ∧
      readAddress s 0x56 = s.offset ∧
      readAddress s 0x57 = s.tsi ∧
      readAddress s 0x60 = (match s.phase with
        | .idle => 0 | .awaitingSend => 1 | .awaitingReply => 2 | .decoded => 3 | .failed => 4) ∧
      readAddress s 0x61 = (match s.err with
        | none => 0 | some .invalidVersion => 1 | some .resolutionFailure => 2 | some .connectFailure => 3
        | some .timeout => 4 | some .writeFailure => 5 | some .readFailure => 6 | some .malformedPacket => 7) ∧
      readAddress s 0x62 = (match s.rsp with
        | .ok => 0 | .error .invalidVersion => 1 | .error .resolutionFailure => 2 | .error .connectFailure => 3
        | .error .timeout => 4 | .error .writeFailure => 5 | .error .readFailure => 6 | .error .malformedPacket => 7
        | .refused => 15) ∧
      ∀ a : RegAddr, (0x31 ≤ a.toNat ∧ a.toNat ≤ 0x3F) ∨ (0x4B ≤ a.toNat ∧ a.toNat ≤ 0x4F) ∨
        (0x58 ≤ a.toNat ∧ a.toNat ≤ 0x5F) ∨ 0x63 ≤ a.toNat → readAddress s a = 0

/-- RegWrite puts the low bits of the value in the register the map names and changes no other register; a read-only or
unmapped address changes nothing (20_memory.md R44 with the map R42). -/
def Obligations.RegWriteWritesOnlyItsRegister : Prop :=
  ∀ (s : State) (v : Word) (rest : List Transaction),
    let write := fun a : RegAddr => step { s with port := .regWrite a v :: rest }
    let t : State := { s with port := rest, portOut := .nothing }
    (∀ i, i < 48 → s.buf.wf = true → ∃ m, write (BitVec.ofNat 8 i) = .next { t with buf := m } ∧
      m.read i = v.setWidth 8 ∧ ∀ j, j ≠ i → m.read j = s.buf.read j) ∧
    write 0x30 = .next { t with buflen := v.setWidth 16 } ∧
    write 0x40 = .next { t with pkt := { s.pkt with lvm := v.setWidth 8 } } ∧
    write 0x41 = .next { t with pkt := { s.pkt with stratum := v.setWidth 8 } } ∧
    write 0x42 = .next { t with pkt := { s.pkt with poll := v.setWidth 8 } } ∧
    write 0x43 = .next { t with pkt := { s.pkt with precision := v.setWidth 8 } } ∧
    write 0x44 = .next { t with pkt := { s.pkt with rootdelay := v.setWidth 32 } } ∧
    write 0x45 = .next { t with pkt := { s.pkt with rootdisp := v.setWidth 32 } } ∧
    write 0x46 = .next { t with pkt := { s.pkt with refid := v.setWidth 32 } } ∧
    write 0x47 = .next { t with pkt := { s.pkt with refts := v } } ∧
    write 0x48 = .next { t with pkt := { s.pkt with orgts := v } } ∧
    write 0x49 = .next { t with pkt := { s.pkt with rxts := v } } ∧
    write 0x4A = .next { t with pkt := { s.pkt with txts := v } } ∧
    write 0x50 = .next { t with t1 := v } ∧
    write 0x51 = .next { t with t2 := v } ∧
    write 0x52 = .next { t with t3 := v } ∧
    write 0x53 = .next { t with t4 := v } ∧
    ∀ a : RegAddr, (0x31 ≤ a.toNat ∧ a.toNat ≤ 0x3F) ∨ (0x4B ≤ a.toNat ∧ a.toNat ≤ 0x4F) ∨
      (0x54 ≤ a.toNat ∧ a.toNat ≤ 0x5F) ∨ 0x60 ≤ a.toNat → write a = .next t

/-- A RegRead returns what the RegWrite before it left: the value cut to the register's width, or the old value of a
read-only register (20_memory.md R43, R44, R50). -/
def Obligations.ReadBackAfterWrite : Prop :=
  ∀ (s : State) (a : RegAddr) (v : Word) (r : RegName) (rest : List Transaction), s.buf.wf = true →
    registerAt a = some r → s.port = .regWrite a v :: .regRead a :: rest →
    ∃ t u, step s = .next t ∧ step t = .next u ∧
      u.portOut = .data (if hostWritable r then BitVec.ofNat 64 (v.toNat % 2 ^ registerWidth r) else readRegister s r) ∧
      u.rsp = s.rsp ∧ u.port = rest

/-- Reset gives every register its reset value, zero, in any phase, and is never refused; it returns nothing. A NEW that is
accepted leaves the same registers. Beside ABORT, SENT and REPLY only Reset leaves AwaitingSend or AwaitingReply
(70_reset_and_hazards.md R180, 10_state.md R31). The clauses `port := rest` and `port := s.port`, by which pending transactions
survive a Reset and a NEW, are the model's choice (log 1, DESIGN CHOICE): no rule says them. -/
def Obligations.ResetTransactionZeroesEveryRegister : Prop :=
  (∀ (s : State) (rest : List Transaction), s.port = .reset :: rest →
      step s = .next { State.reset with port := rest, portOut := .nothing }) ∧
    (∀ s : State, accepts .new s.phase = true →
      exec .new s = .next { State.reset with port := s.port, portOut := .code .ok }) ∧
    ((∀ a : RegAddr, readAddress State.reset a = 0) ∧
      State.reset.phase = .idle ∧ State.reset.err = none ∧ State.reset.rsp = .ok ∧ ∀ i, State.reset.buf.read i = 0) ∧
    ∀ s t : State, step s = .next t → s.phase = .awaitingSend ∨ s.phase = .awaitingReply → t.phase ≠ s.phase →
      ∃ x rest, s.port = x :: rest ∧
        (x = .reset ∨ x = .cmd 0x0300 ∨ x = .cmd 0x0400 ∨ ∃ w k, x = .cmd w ∧ decode w = .ok (.abort k))

/-! ## The exchange commands -/

/-- NEW: accepted in Idle, Decoded and Failed, it gives every register its reset value and answers OK; in AwaitingSend and
AwaitingReply it is refused (44_exchange.md R131). The clause `port := s.port` of an accepted NEW, by which pending
transactions survive it, is the model's choice (log 1, DESIGN CHOICE): no rule says it. -/
def Obligations.NewStartsFreshInstance : Prop :=
  decode 0x0100 = .ok .new ∧
    ∀ s : State,
      (s.phase = .idle ∨ s.phase = .decoded ∨ s.phase = .failed →
        exec .new s = .next { State.reset with port := s.port, portOut := .code .ok }) ∧
      (s.phase = .awaitingSend ∨ s.phase = .awaitingReply →
        exec .new s = .next { s with rsp := .refused, portOut := .code .refused })

/-- REQ v: refused outside Idle; in Idle an illegal version goes to Failed with InvalidVersion and writes nothing else; a
legal one builds the request image of 30_encoding.md R69 whatever BUF and the Packet held (44_exchange.md R132). -/
def Obligations.ReqBuildsRequestImage : Prop :=
  (∀ v : BitVec 8, decode (0x0200 ||| v.setWidth 16) = .ok (.req v)) ∧
    ∀ (s : State) (v : BitVec 8),
      (s.phase ≠ .idle → exec (.req v) s = .next { s with rsp := .refused, portOut := .code .refused }) ∧
      (s.phase = .idle → v ≠ 3 → v ≠ 4 →
        exec (.req v) s = .next { s with
          phase := .failed, err := some .invalidVersion, rsp := .error .invalidVersion,
          portOut := .code (.error .invalidVersion) }) ∧
      (s.phase = .idle → s.buf.wf = true → v = 3 ∨ v = 4 →
        ∃ t, exec (.req v) s = .next t ∧
          t.pkt = { Packet.zero with lvm := if v = 4 then 0x23 else 0x1B } ∧
          t.buf.read 0 = (if v = 4 then 0x23 else 0x1B) ∧ (∀ i, 1 ≤ i → i < 48 → t.buf.read i = 0) ∧
          (∀ i, 48 ≤ i → t.buf.read i = s.buf.read i) ∧ t.buflen = 48 ∧ t.phase = .awaitingSend ∧ t.err = s.err ∧
          KeepsInstants s t ∧ KeepsResults s t ∧ KeepsTsi s t ∧ KeepsPort s t ∧ Answers .ok t)

/-- Inside the block `REQ v` is `CLRPKT; SETMODE 3; SETVER v; PACK` "plus the phase change" (30_encoding.md R82): in Idle, with
a legal version, the four primitives one after the other reach the state REQ reaches, but for PHASE. -/
def Obligations.ReqEqualsPrimitiveSequence : Prop :=
  ∀ (s : State) (v : BitVec 8), s.phase = .idle → v = 3 ∨ v = 4 →
    ∃ a b c d, exec .clrpkt s = .next a ∧ exec (.setmode 3) a = .next b ∧ exec (.setver v) b = .next c ∧
      exec .pack c = .next d ∧ exec (.req v) s = .next { d with phase := .awaitingSend }

/-- SENT: AwaitingSend to AwaitingReply, reading and writing nothing but PHASE and RSP; refused in every other phase
(44_exchange.md R133). -/
def Obligations.SentRecordsHandover : Prop :=
  decode 0x0300 = .ok .sent ∧
    ∀ s : State,
      (s.phase = .awaitingSend →
        exec .sent s = .next { s with phase := .awaitingReply, rsp := .ok, portOut := .code .ok }) ∧
      (s.phase ≠ .awaitingSend → exec .sent s = .next { s with rsp := .refused, portOut := .code .refused })

/-- REPLY: refused outside AwaitingReply; with BUFLEN not 48 it goes to Failed with MalformedPacket and writes nothing else;
else it loads the eleven Packet registers from BUF, T2 and T3 from the reply's Receive and Transmit Timestamps, the three
results from T1..T4, and goes to Decoded (44_exchange.md R134). -/
def Obligations.ReplyDecodesAndEstimates : Prop :=
  decode 0x0400 = .ok .reply ∧
    ∀ s : State,
      (s.phase ≠ .awaitingReply → exec .reply s = .next { s with rsp := .refused, portOut := .code .refused }) ∧
      (s.phase = .awaitingReply → s.buflen ≠ 48 →
        exec .reply s = .next { s with
          phase := .failed, err := some .malformedPacket, rsp := .error .malformedPacket,
          portOut := .code (.error .malformedPacket) }) ∧
      (s.phase = .awaitingReply → s.buflen = 48 →
        ∃ t, exec .reply s = .next t ∧ (∀ i, i < 48 → packetByte t.pkt i = s.buf.read i) ∧
          t.t2.toNat = timestampNs t.pkt.rxts ∧ t.t3.toNat = timestampNs t.pkt.txts ∧ t.t1 = s.t1 ∧ t.t4 = s.t4 ∧
          t.delta = (t.t4 - t.t1) - (t.t3 - t.t2) ∧ t.ndelay.toInt = t.delta.toInt.tdiv 2 ∧
          t.offset = (t.t2 - t.t1) - t.ndelay ∧ t.phase = .decoded ∧ t.err = s.err ∧
          KeepsBuffer s t ∧ KeepsTsi s t ∧ KeepsPort s t ∧ Answers .ok t)

/-- ABORT k, for the five kinds the transport reports: Failed with ERR = k and response OK in Idle, AwaitingSend and
AwaitingReply; refused in Decoded and Failed; nothing but PHASE, ERR and RSP is written. No word spells ABORT with one of the
two kinds the block detects itself (44_exchange.md R135). -/
def Obligations.AbortRecordsTransportFailure : Prop :=
  (decode 0x0502 = .ok (.abort .resolutionFailure) ∧ decode 0x0503 = .ok (.abort .connectFailure) ∧
      decode 0x0504 = .ok (.abort .timeout) ∧ decode 0x0505 = .ok (.abort .writeFailure) ∧
      decode 0x0506 = .ok (.abort .readFailure)) ∧
    (∀ w, decode w ≠ .ok (.abort .invalidVersion) ∧ decode w ≠ .ok (.abort .malformedPacket)) ∧
    ∀ (s : State) (k : ErrorKind),
      (k ≠ .invalidVersion → k ≠ .malformedPacket →
        s.phase = .idle ∨ s.phase = .awaitingSend ∨ s.phase = .awaitingReply →
        exec (.abort k) s = .next { s with phase := .failed, err := some k, rsp := .ok, portOut := .code .ok }) ∧
      (s.phase = .decoded ∨ s.phase = .failed →
        exec (.abort k) s = .next { s with rsp := .refused, portOut := .code .refused })

/-! ## The primitive commands -/

/-- CLRPKT: the eleven Packet registers become zero, the answer is OK, in every phase; nothing else is touched
(40_header_bits.md R90). -/
def Obligations.ClrpktZeroesPacketOnly : Prop :=
  decode 0x1000 = .ok .clrpkt ∧
    ∀ s : State, exec .clrpkt s = .next { s with
      pkt := { lvm := 0, stratum := 0, poll := 0, precision := 0, rootdelay := 0, rootdisp := 0, refid := 0, refts := 0,
               orgts := 0, rxts := 0, txts := 0 },
      rsp := .ok, portOut := .code .ok }

/-- SETMODE m: `LVM <- (LVM & 0xF8) | m` for all eight modes, answer OK, nothing else touched (40_header_bits.md R91). -/
def Obligations.SetmodeWritesModeField : Prop :=
  (∀ m : BitVec 3, decode (0x1100 ||| m.setWidth 16) = .ok (.setmode m)) ∧
    ∀ (s : State) (m : BitVec 3), exec (.setmode m) s = .next { s with
      pkt := { s.pkt with lvm := (s.pkt.lvm &&& 0xF8) ||| m.setWidth 8 }, rsp := .ok, portOut := .code .ok }

/-- SETVER v: `LVM <- (LVM & 0xC7) | (v << 3)` and OK for versions 3 and 4; InvalidVersion with nothing but RSP written for
every other 8-bit operand; in every phase (40_header_bits.md R92). -/
def Obligations.SetverValidatesThenWritesVersion : Prop :=
  (∀ v : BitVec 8, decode (0x1200 ||| v.setWidth 16) = .ok (.setver v)) ∧
    ∀ (s : State) (v : BitVec 8),
      (v = 3 ∨ v = 4 → exec (.setver v) s = .next { s with
        pkt := { s.pkt with lvm := (s.pkt.lvm &&& 0xC7) ||| (v <<< 3) }, rsp := .ok, portOut := .code .ok }) ∧
      (v ≠ 3 → v ≠ 4 → exec (.setver v) s = .next { s with
        rsp := .error .invalidVersion, portOut := .code (.error .invalidVersion) })

/-- PACK: byte i of BUF becomes byte i of the packet's 384-bit big-endian string, BUFLEN 48, answer OK; the Packet and all
else are unchanged (41_serdes.md R100, R101). Canonical form of BUF is an invariant (StepKeepsInvariant). -/
def Obligations.PackSerializesBigEndian : Prop :=
  decode 0x1300 = .ok .pack ∧
    ∀ s : State, s.buf.wf = true → ∃ t, exec .pack s = .next t ∧
      (∀ i, i < 48 → t.buf.read i = packetByte s.pkt i) ∧ (∀ i, 48 ≤ i → t.buf.read i = s.buf.read i) ∧
      t.buflen = 48 ∧ KeepsPacket s t ∧ KeepsInstants s t ∧ KeepsResults s t ∧ KeepsTsi s t ∧ KeepsExchange s t ∧
      KeepsPort s t ∧ Answers .ok t

/-- UNPACK: with BUFLEN = 48 all eleven Packet registers are loaded so that the packet's byte i is BUF[i], whatever the bytes,
and the answer is OK; with any other BUFLEN the answer is MalformedPacket and nothing else is written (41_serdes.md R103,
R106). -/
def Obligations.UnpackDeserializesOrRejects : Prop :=
  decode 0x1400 = .ok .unpack ∧
    ∀ s : State,
      (s.buflen = 48 → ∃ t, exec .unpack s = .next t ∧ (∀ i, i < 48 → packetByte t.pkt i = s.buf.read i) ∧
        KeepsBuffer s t ∧ KeepsInstants s t ∧ KeepsResults s t ∧ KeepsTsi s t ∧ KeepsExchange s t ∧ KeepsPort s t ∧
        Answers .ok t) ∧
      (s.buflen ≠ 48 → exec .unpack s = .next { s with
        rsp := .error .malformedPacket, portOut := .code (.error .malformedPacket) })

/-- TS2I s: TSI becomes `sec × 10^9 + floor(frac × 10^9 / 2^32)` of the selected timestamp register, answer OK, for every
64-bit value; nothing else is touched (42_timestamp.md R110, R111). -/
def Obligations.Ts2iConvertsSelectedTimestamp : Prop :=
  (decode 0x2000 = .ok (.ts2i .refts) ∧ decode 0x2001 = .ok (.ts2i .orgts) ∧ decode 0x2002 = .ok (.ts2i .rxts) ∧
      decode 0x2003 = .ok (.ts2i .txts)) ∧
    ∀ (s : State) (r : TsReg), ∃ t, exec (.ts2i r) s = .next t ∧
      t.tsi.toNat = timestampNs (match r with
        | .refts => s.pkt.refts | .orgts => s.pkt.orgts | .rxts => s.pkt.rxts | .txts => s.pkt.txts) ∧
      KeepsPacket s t ∧ KeepsBuffer s t ∧ KeepsInstants s t ∧ KeepsResults s t ∧ KeepsExchange s t ∧ KeepsPort s t ∧
      Answers .ok t

/-- CALC: the three formulas on T1..T4, subtraction modulo 2^64 and division by 2 toward zero; answer OK; nothing else is
touched (43_offset.md R120, R121). Where a step wraps the value is the one R120 gives (D13); 93_implementation_defined.md U11
advises against relying on it there (log 5), and CalcIsExactInRange gives the range where nothing wraps. -/
def Obligations.CalcComputesDelayAndOffset : Prop :=
  decode 0x2100 = .ok .calculate ∧
    ∀ s : State, ∃ t, exec .calculate s = .next t ∧ t.delta = (s.t4 - s.t1) - (s.t3 - s.t2) ∧
      t.ndelay.toInt = t.delta.toInt.tdiv 2 ∧ t.offset = (s.t2 - s.t1) - t.ndelay ∧
      KeepsPacket s t ∧ KeepsBuffer s t ∧ KeepsInstants s t ∧ KeepsTsi s t ∧ KeepsExchange s t ∧ KeepsPort s t ∧
      Answers .ok t

/-! ## Laws of the datapath -/

/-- The byte splits into its three fields, each setter writes its own field and no other, and the setters commute
(40_header_bits.md R93, R94: "derived" there). -/
def Obligations.HeaderSettersWriteDisjointFields : Prop :=
  (∀ b : Byte, b = ((li b).setWidth 8 <<< 6) ||| ((vn b).setWidth 8 <<< 3) ||| (mode b).setWidth 8) ∧
    ∀ (b : Byte) (m : BitVec 3) (v : Byte),
      (mode (setMode b m) = m ∧ vn (setMode b m) = vn b ∧ li (setMode b m) = li b) ∧
      (v = 3 ∨ v = 4 → vn (setVersion b v) = v.setWidth 3 ∧ mode (setVersion b v) = mode b ∧ li (setVersion b v) = li b ∧
        setVersion (setMode b m) v = setMode (setVersion b v) m)

/-- The codec is a bijection between Packet values and 48-byte strings: PACK then UNPACK leaves the eleven registers as they
were, and UNPACK then PACK leaves the 48 bytes as they were (41_serdes.md R104; the second half is "derived" there). -/
def Obligations.CodecRoundTrips : Prop :=
  (∀ s : State, s.buf.wf = true →
      ∃ t u, exec .pack s = .next t ∧ exec .unpack t = .next u ∧ u.pkt = s.pkt ∧ u.rsp = .ok) ∧
    ∀ s : State, s.buf.wf = true → s.buflen = 48 →
      ∃ t u, exec .unpack s = .next t ∧ exec .pack t = .next u ∧ u.buf = s.buf ∧ u.buflen = 48

/-- After PACK the buffer depends on the Packet alone: "nothing of the buffer's earlier contents survives" (41_serdes.md
R100, R105). -/
def Obligations.PackedBytesIgnoreOldBuffer : Prop :=
  ∀ s s' : State, s.buf.wf = true → s'.buf.wf = true → s.pkt = s'.pkt →
    ∃ t t', exec .pack s = .next t ∧ exec .pack s' = .next t' ∧ t.buf = t'.buf ∧ t.buflen = t'.buflen

/-- After UNPACK the Packet depends on the 48 bytes alone: "no field of an earlier Packet ... survives" (41_serdes.md R103). -/
def Obligations.UnpackedPacketHasNoStaleField : Prop :=
  ∀ s s' : State, s.buflen = 48 → s'.buflen = 48 → (∀ i, i < 48 → s.buf.read i = s'.buf.read i) →
    ∃ t t', exec .unpack s = .next t ∧ exec .unpack s' = .next t' ∧ t.pkt = t'.pkt

/-- `instant` never overflows, errs by less than one nanosecond, always below, and is monotone (42_timestamp.md R112, R114:
"derived" there). -/
def Obligations.InstantTruncatesAndIsMonotone : Prop :=
  (∀ ts : Word, (instant ts).toNat ≤ 4294967295999999999 ∧
      (instant ts).toNat * 2 ^ 32 ≤ ts.toNat * 1000000000 ∧
      ts.toNat * 1000000000 < ((instant ts).toNat + 1) * 2 ^ 32) ∧
    ∀ ts ts' : Word, ts.toNat ≤ ts'.toNat → (instant ts).toNat ≤ (instant ts').toNat

/-- After CALC, NDELAY has the sign of DELTA and magnitude `floor(|DELTA| / 2)`, for every DELTA (43_offset.md R123). -/
def Obligations.NdelayRoundsTowardZero : Prop :=
  ∀ s : State, ∃ t, exec .calculate s = .next t ∧ t.ndelay.toInt.natAbs = t.delta.toInt.natAbs / 2 ∧
    (0 ≤ t.delta.toInt → 0 ≤ t.ndelay.toInt) ∧ (t.delta.toInt ≤ 0 → t.ndelay.toInt ≤ 0)

/-- With T1..T4 in 0..INSTANT_MAX no step of `calc` wraps: the results are the exact integers of the formulas, inside the
bounds the rule gives (43_offset.md R124: "derived" there). -/
def Obligations.CalcIsExactInRange : Prop :=
  ∀ s : State, InstantsInRange s → ∃ t, exec .calculate s = .next t ∧
    t.delta.toInt = (s.t4.toInt - s.t1.toInt) - (s.t3.toInt - s.t2.toInt) ∧
    t.ndelay.toInt = ((s.t4.toInt - s.t1.toInt) - (s.t3.toInt - s.t2.toInt)).tdiv 2 ∧
    t.offset.toInt = (s.t2.toInt - s.t1.toInt) - t.ndelay.toInt ∧
    -2 ^ 63 < t.delta.toInt ∧ t.delta.toInt < 2 ^ 63 ∧ -2 ^ 62 < t.ndelay.toInt ∧ t.ndelay.toInt < 2 ^ 62 ∧
    -2 ^ 63 < t.offset.toInt ∧ t.offset.toInt < 2 ^ 63

/-- With the server clock ahead by θ and equal one-way latencies d, DELTA is 2d, NDELAY is d and OFFSET is θ: positive means
the local clock is behind (43_offset.md R122). -/
def Obligations.OffsetIsServerLead : Prop :=
  ∀ (s : State) (d θ : Int), InstantsInRange s → s.t2.toInt = s.t1.toInt + d + θ → s.t4.toInt = s.t3.toInt + d - θ →
    ∃ t, exec .calculate s = .next t ∧ t.delta.toInt = 2 * d ∧ t.ndelay.toInt = d ∧ t.offset.toInt = θ

/-- The one-sided form the block computes equals the symmetric form when DELTA is even, never differs from it by more than
1 ns, and does differ for T2 - T1 = 1, T3 - T4 = 0 (43_offset.md R125). -/
def Obligations.OneSidedFormAgainstSymmetricForm : Prop :=
  (∀ s : State, InstantsInRange s → ∃ t, exec .calculate s = .next t ∧
      (t.delta.toInt % 2 = 0 →
        t.offset.toInt = ((s.t2.toInt - s.t1.toInt) + (s.t3.toInt - s.t4.toInt)).tdiv 2) ∧
      (t.offset.toInt - ((s.t2.toInt - s.t1.toInt) + (s.t3.toInt - s.t4.toInt)).tdiv 2).natAbs ≤ 1) ∧
    ∃ t, exec .calculate { State.reset with t2 := 1 } = .next t ∧ t.offset = 1

/-! ## The machine as a whole -/

/-- The acceptance table: in a phase marked `ref` an exchange command answers REFUSED and changes nothing else, in a phase
marked `acc` it does not answer REFUSED (44_exchange.md R130). -/
def Obligations.ExchangeCommandsRefusedOutOfPhase : Prop :=
  ∀ s : State,
    let refused : Result := .next { s with rsp := .refused, portOut := .code .refused }
    let accepted := fun i : Instr => ∃ t, exec i s = .next t ∧ t.rsp ≠ .refused
    (s.phase = .idle → accepted .new ∧ (∀ v, accepted (.req v)) ∧ exec .sent s = refused ∧ exec .reply s = refused ∧
      ∀ k, k.reportable = true → accepted (.abort k)) ∧
    (s.phase = .awaitingSend → exec .new s = refused ∧ (∀ v, exec (.req v) s = refused) ∧ accepted .sent ∧
      exec .reply s = refused ∧ ∀ k, k.reportable = true → accepted (.abort k)) ∧
    (s.phase = .awaitingReply → exec .new s = refused ∧ (∀ v, exec (.req v) s = refused) ∧ exec .sent s = refused ∧
      accepted .reply ∧ ∀ k, k.reportable = true → accepted (.abort k)) ∧
    (s.phase = .decoded → accepted .new ∧ (∀ v, exec (.req v) s = refused) ∧ exec .sent s = refused ∧
      exec .reply s = refused ∧ ∀ k, exec (.abort k) s = refused) ∧
    (s.phase = .failed → accepted .new ∧ (∀ v, exec (.req v) s = refused) ∧ exec .sent s = refused ∧
      exec .reply s = refused ∧ ∀ k, exec (.abort k) s = refused)

/-- Every well-formed command moves PHASE, ERR and RSP as one row of the transition table says (44_exchange.md R138:
"derived" there). -/
def Obligations.EveryCommandFollowsTransitionTable : Prop :=
  ∀ (s : State) (i : Instr), i.wellFormed = true →
    ∃ t, exec i s = .next t ∧ Transition s.phase s.err s.buflen i t.phase t.err t.rsp

/-- A command that raises an error or is refused, an illegal word among them, writes at most RSP, ERR and PHASE: every other
register keeps its value (60_exceptions.md R158). -/
def Obligations.ErrorsWriteOnlyStatus : Prop :=
  ∀ (s t : State) (w : CmdWord) (rest : List Transaction), s.port = .cmd w :: rest → step s = .next t → t.rsp ≠ .ok →
    t = { s with port := rest, portOut := .code t.rsp, phase := t.phase, err := t.err, rsp := t.rsp }

/-- The first failed check decides the one code: word legality, then phase acceptance, then the command's own check
(60_exceptions.md R160). -/
def Obligations.FirstFailedCheckDecidesResponse : Prop :=
  ∀ (s : State) (w : CmdWord) (rest : List Transaction), s.port = .cmd w :: rest → ∃ t, step s = .next t ∧
    (IsIllegal w → t.rsp = .refused) ∧
    ∀ i, decode w = .ok i →
      (accepts i s.phase = false → t.rsp = .refused) ∧
      (accepts i s.phase = true →
        (∀ v, i = .req v ∨ i = .setver v → t.rsp = if v = 3 ∨ v = 4 then .ok else .error .invalidVersion) ∧
        (i = .reply ∨ i = .unpack → t.rsp = if s.buflen = 48 then .ok else .error .malformedPacket) ∧
        ((∀ v, i ≠ .req v ∧ i ≠ .setver v) → i ≠ .reply → i ≠ .unpack → t.rsp = .ok))

/-- The seven primitive commands are accepted in every phase, leave PHASE and ERR alone, and have the same effect whatever
PHASE and ERR hold; RegRead and RegWrite leave them alone too (44_exchange.md R139). -/
def Obligations.PrimitivesIgnoreExchangeState : Prop :=
  (∀ (s : State) (i : Instr) (p : Phase) (e : Option ErrorKind), isExchange i = false →
      ∃ t, exec i s = .next t ∧ t.rsp ≠ .refused ∧ KeepsExchange s t ∧
        exec i { s with phase := p, err := e } = .next { t with phase := p, err := e }) ∧
    (∀ (s t : State) (a : RegAddr) (rest : List Transaction), s.port = .regRead a :: rest → step s = .next t →
      KeepsExchange s t) ∧
    ∀ (s t : State) (a : RegAddr) (v : Word) (rest : List Transaction), s.port = .regWrite a v :: rest →
      step s = .next t → KeepsExchange s t

/-- Decoded is entered only by a REPLY in AwaitingReply with BUFLEN = 48 (44_exchange.md R138: "derived" there). -/
def Obligations.DecodedOnlyThroughReply : Prop :=
  ∀ s t : State, step s = .next t → t.phase = .decoded →
    s.phase = .decoded ∨ (s.phase = .awaitingReply ∧ s.buflen = 48 ∧ ∃ rest, s.port = .cmd 0x0400 :: rest)

/-- In Decoded and in Failed, PHASE and ERR change only when the transaction served is NEW or Reset (44_exchange.md R136:
"derived" there). -/
def Obligations.TerminalPhaseEndsOnlyAfresh : Prop :=
  ∀ s t : State, step s = .next t → s.phase.terminal = true → t.phase ≠ s.phase ∨ t.err ≠ s.err → StartsFresh s

/-- From a state of the invariant with an error recorded, any number of steps that serve neither NEW nor Reset keeps Failed
and the first cause (60_exceptions.md R162, R163: "derived" there). -/
def Obligations.FirstErrorKeptUntilFreshStart : Prop :=
  ∀ (n : Nat) (s : State) (k : ErrorKind), s.Inv → s.err = some k →
    (∀ x ∈ s.port.take n, x ≠ .reset ∧ x ≠ .cmd 0x0100) →
    ∃ t, Host.Core.run Sys2Proof.core n s = .next t ∧ t.err = some k ∧ t.phase = .failed

/-- A step lowers the phase's rank only to Idle, and only by Reset or by NEW in a terminal phase (44_exchange.md R137,
70_reset_and_hazards.md R180). -/
def Obligations.ExchangeNeverMovesBackward : Prop :=
  ∀ s t : State, step s = .next t → t.phase.rank < s.phase.rank →
    t.phase = .idle ∧
      ((∃ rest, s.port = .reset :: rest) ∨ (s.phase.terminal = true ∧ ∃ rest, s.port = .cmd 0x0100 :: rest))

/-- NEW, when accepted, leaves every register as Reset does; the two differ in the phases where NEW is refused and Reset is
not (70_reset_and_hazards.md R182). They differ in what they return, too (20_memory.md R40). -/
def Obligations.NewEqualsReset : Prop :=
  ∀ (s : State) (rest : List Transaction),
    ∃ t, step { s with port := .reset :: rest } = .next t ∧
      (s.phase ≠ .awaitingSend → s.phase ≠ .awaitingReply →
        step { s with port := .cmd 0x0100 :: rest } = .next { t with portOut := .code .ok }) ∧
      (s.phase = .awaitingSend ∨ s.phase = .awaitingReply →
        step { s with port := .cmd 0x0100 :: rest } =
          .next { s with port := rest, rsp := .refused, portOut := .code .refused })

/-- Whatever step enters Failed, it writes ERR, PHASE and RSP and saves nothing; the response is the kind, or OK for ABORT
(60_exceptions.md R161: "derived" there). -/
def Obligations.FailureEntryWritesKindAndPhaseOnly : Prop :=
  ∀ s t : State, step s = .next t → t.phase = .failed → s.phase ≠ .failed →
    ∃ k r, t = { s with port := s.port.tail, portOut := .code r, phase := .failed, err := some k, rsp := r } ∧
      (r = .error k ∨ (r = .ok ∧ ∃ w rest, s.port = .cmd w :: rest ∧ decode w = .ok (.abort k)))

/-- What a step does depends on the transaction it serves and on the registers, never on the transactions still to come:
each is "the whole effect" of its own transaction (20_memory.md R47, R50). The list of pending transactions, and that they
survive a Reset and a NEW, are the model's choice (log 1, DESIGN CHOICE): no rule says them. -/
def Obligations.PendingTransactionsHaveNoInfluence : Prop :=
  ∀ (s t : State) (x : Transaction) (rest rest' : List Transaction), s.port = x :: rest → step s = .next t →
    step { s with port := x :: rest' } = .next { t with port := rest' }

/-- A successful REPLY ends the run in success with the Response {T1, T2, OFFSET, STRATUM, no error}, STRATUM the reply's
byte 1 whatever it is and T2 the conversion of its bytes 32..39; a malformed one ends it in failure with MalformedPacket
(10_state.md R28, 44_exchange.md R140, 43_offset.md R126). -/
def Obligations.ReplyEndsTheRun : Prop :=
  ∀ s : State, s.Inv → s.phase = .awaitingReply →
    (s.buflen = 48 → ∃ t, exec .reply s = .next t ∧
      t.runOutcome = .success ⟨s.t1, t.t2, t.offset, s.buf.read 1, none⟩ ∧
      t.t2.toNat = timestampNs (s.buf.read 32 ++ s.buf.read 33 ++ s.buf.read 34 ++ s.buf.read 35 ++ s.buf.read 36 ++
        s.buf.read 37 ++ s.buf.read 38 ++ s.buf.read 39)) ∧
    (s.buflen ≠ 48 → ∃ t, exec .reply s = .next t ∧ t.runOutcome = .failure (some .malformedPacket))

/-! ## The invariant -/

/-- The reset state satisfies the invariant. -/
def Obligations.ResetSatisfiesInvariant : Prop := State.reset.Inv

/-- Every step keeps the invariant: BUF canonical, "`ERR ≠ 0` if and only if `PHASE` = Failed" (10_state.md R26), NDELAY half
of DELTA, TSI at most INSTANT_MAX, RSP a code a command reports (60_exceptions.md R150), and a returned code equal to RSP
(10_state.md R27). -/
def Obligations.StepKeepsInvariant : Prop :=
  ∀ s t : State, s.Inv → step s = .next t → t.Inv
end

