-- ==== Sys2Proof/Laws/State.lean ====
section
/-! SUPPORT. What each named update leaves in each field of the state: one lemma per field per update, true by
rfl (in parentheses, so that simp proves by these equations and the kernel never compares two whole states). -/

namespace Sys2Proof.Machine

@[simp] theorem State.setPkt_pkt (s : State) (p : Packet) : (s.setPkt p).pkt = p := (rfl)
@[simp] theorem State.setPkt_buf (s : State) (p : Packet) : (s.setPkt p).buf = s.buf := (rfl)
@[simp] theorem State.setPkt_buflen (s : State) (p : Packet) : (s.setPkt p).buflen = s.buflen := (rfl)
@[simp] theorem State.setPkt_t1 (s : State) (p : Packet) : (s.setPkt p).t1 = s.t1 := (rfl)
@[simp] theorem State.setPkt_t2 (s : State) (p : Packet) : (s.setPkt p).t2 = s.t2 := (rfl)
@[simp] theorem State.setPkt_t3 (s : State) (p : Packet) : (s.setPkt p).t3 = s.t3 := (rfl)
@[simp] theorem State.setPkt_t4 (s : State) (p : Packet) : (s.setPkt p).t4 = s.t4 := (rfl)
@[simp] theorem State.setPkt_delta (s : State) (p : Packet) : (s.setPkt p).delta = s.delta := (rfl)
@[simp] theorem State.setPkt_ndelay (s : State) (p : Packet) : (s.setPkt p).ndelay = s.ndelay := (rfl)
@[simp] theorem State.setPkt_offset (s : State) (p : Packet) : (s.setPkt p).offset = s.offset := (rfl)
@[simp] theorem State.setPkt_tsi (s : State) (p : Packet) : (s.setPkt p).tsi = s.tsi := (rfl)
@[simp] theorem State.setPkt_phase (s : State) (p : Packet) : (s.setPkt p).phase = s.phase := (rfl)
@[simp] theorem State.setPkt_err (s : State) (p : Packet) : (s.setPkt p).err = s.err := (rfl)
@[simp] theorem State.setPkt_rsp (s : State) (p : Packet) : (s.setPkt p).rsp = s.rsp := (rfl)
@[simp] theorem State.setPkt_port (s : State) (p : Packet) : (s.setPkt p).port = s.port := (rfl)
@[simp] theorem State.setPkt_portOut (s : State) (p : Packet) : (s.setPkt p).portOut = s.portOut := (rfl)

@[simp] theorem State.setLvm_pkt (s : State) (b : Byte) : (s.setLvm b).pkt = { s.pkt with lvm := b } := (rfl)
@[simp] theorem State.setLvm_buf (s : State) (b : Byte) : (s.setLvm b).buf = s.buf := (rfl)
@[simp] theorem State.setLvm_buflen (s : State) (b : Byte) : (s.setLvm b).buflen = s.buflen := (rfl)
@[simp] theorem State.setLvm_t1 (s : State) (b : Byte) : (s.setLvm b).t1 = s.t1 := (rfl)
@[simp] theorem State.setLvm_t2 (s : State) (b : Byte) : (s.setLvm b).t2 = s.t2 := (rfl)
@[simp] theorem State.setLvm_t3 (s : State) (b : Byte) : (s.setLvm b).t3 = s.t3 := (rfl)
@[simp] theorem State.setLvm_t4 (s : State) (b : Byte) : (s.setLvm b).t4 = s.t4 := (rfl)
@[simp] theorem State.setLvm_delta (s : State) (b : Byte) : (s.setLvm b).delta = s.delta := (rfl)
@[simp] theorem State.setLvm_ndelay (s : State) (b : Byte) : (s.setLvm b).ndelay = s.ndelay := (rfl)
@[simp] theorem State.setLvm_offset (s : State) (b : Byte) : (s.setLvm b).offset = s.offset := (rfl)
@[simp] theorem State.setLvm_tsi (s : State) (b : Byte) : (s.setLvm b).tsi = s.tsi := (rfl)
@[simp] theorem State.setLvm_phase (s : State) (b : Byte) : (s.setLvm b).phase = s.phase := (rfl)
@[simp] theorem State.setLvm_err (s : State) (b : Byte) : (s.setLvm b).err = s.err := (rfl)
@[simp] theorem State.setLvm_rsp (s : State) (b : Byte) : (s.setLvm b).rsp = s.rsp := (rfl)
@[simp] theorem State.setLvm_port (s : State) (b : Byte) : (s.setLvm b).port = s.port := (rfl)
@[simp] theorem State.setLvm_portOut (s : State) (b : Byte) : (s.setLvm b).portOut = s.portOut := (rfl)

@[simp] theorem State.setBuf_pkt (s : State) (m : Memory) : (s.setBuf m).pkt = s.pkt := (rfl)
@[simp] theorem State.setBuf_buf (s : State) (m : Memory) : (s.setBuf m).buf = m := (rfl)
@[simp] theorem State.setBuf_buflen (s : State) (m : Memory) : (s.setBuf m).buflen = s.buflen := (rfl)
@[simp] theorem State.setBuf_t1 (s : State) (m : Memory) : (s.setBuf m).t1 = s.t1 := (rfl)
@[simp] theorem State.setBuf_t2 (s : State) (m : Memory) : (s.setBuf m).t2 = s.t2 := (rfl)
@[simp] theorem State.setBuf_t3 (s : State) (m : Memory) : (s.setBuf m).t3 = s.t3 := (rfl)
@[simp] theorem State.setBuf_t4 (s : State) (m : Memory) : (s.setBuf m).t4 = s.t4 := (rfl)
@[simp] theorem State.setBuf_delta (s : State) (m : Memory) : (s.setBuf m).delta = s.delta := (rfl)
@[simp] theorem State.setBuf_ndelay (s : State) (m : Memory) : (s.setBuf m).ndelay = s.ndelay := (rfl)
@[simp] theorem State.setBuf_offset (s : State) (m : Memory) : (s.setBuf m).offset = s.offset := (rfl)
@[simp] theorem State.setBuf_tsi (s : State) (m : Memory) : (s.setBuf m).tsi = s.tsi := (rfl)
@[simp] theorem State.setBuf_phase (s : State) (m : Memory) : (s.setBuf m).phase = s.phase := (rfl)
@[simp] theorem State.setBuf_err (s : State) (m : Memory) : (s.setBuf m).err = s.err := (rfl)
@[simp] theorem State.setBuf_rsp (s : State) (m : Memory) : (s.setBuf m).rsp = s.rsp := (rfl)
@[simp] theorem State.setBuf_port (s : State) (m : Memory) : (s.setBuf m).port = s.port := (rfl)
@[simp] theorem State.setBuf_portOut (s : State) (m : Memory) : (s.setBuf m).portOut = s.portOut := (rfl)

@[simp] theorem State.setBuflen_pkt (s : State) (n : BitVec 16) : (s.setBuflen n).pkt = s.pkt := (rfl)
@[simp] theorem State.setBuflen_buf (s : State) (n : BitVec 16) : (s.setBuflen n).buf = s.buf := (rfl)
@[simp] theorem State.setBuflen_buflen (s : State) (n : BitVec 16) : (s.setBuflen n).buflen = n := (rfl)
@[simp] theorem State.setBuflen_t1 (s : State) (n : BitVec 16) : (s.setBuflen n).t1 = s.t1 := (rfl)
@[simp] theorem State.setBuflen_t2 (s : State) (n : BitVec 16) : (s.setBuflen n).t2 = s.t2 := (rfl)
@[simp] theorem State.setBuflen_t3 (s : State) (n : BitVec 16) : (s.setBuflen n).t3 = s.t3 := (rfl)
@[simp] theorem State.setBuflen_t4 (s : State) (n : BitVec 16) : (s.setBuflen n).t4 = s.t4 := (rfl)
@[simp] theorem State.setBuflen_delta (s : State) (n : BitVec 16) : (s.setBuflen n).delta = s.delta := (rfl)
@[simp] theorem State.setBuflen_ndelay (s : State) (n : BitVec 16) : (s.setBuflen n).ndelay = s.ndelay := (rfl)
@[simp] theorem State.setBuflen_offset (s : State) (n : BitVec 16) : (s.setBuflen n).offset = s.offset := (rfl)
@[simp] theorem State.setBuflen_tsi (s : State) (n : BitVec 16) : (s.setBuflen n).tsi = s.tsi := (rfl)
@[simp] theorem State.setBuflen_phase (s : State) (n : BitVec 16) : (s.setBuflen n).phase = s.phase := (rfl)
@[simp] theorem State.setBuflen_err (s : State) (n : BitVec 16) : (s.setBuflen n).err = s.err := (rfl)
@[simp] theorem State.setBuflen_rsp (s : State) (n : BitVec 16) : (s.setBuflen n).rsp = s.rsp := (rfl)
@[simp] theorem State.setBuflen_port (s : State) (n : BitVec 16) : (s.setBuflen n).port = s.port := (rfl)
@[simp] theorem State.setBuflen_portOut (s : State) (n : BitVec 16) : (s.setBuflen n).portOut = s.portOut := (rfl)

@[simp] theorem State.setBuffer_pkt (s : State) (m : Memory) (n : BitVec 16) : (s.setBuffer m n).pkt = s.pkt := (rfl)
@[simp] theorem State.setBuffer_buf (s : State) (m : Memory) (n : BitVec 16) : (s.setBuffer m n).buf = m := (rfl)
@[simp] theorem State.setBuffer_buflen (s : State) (m : Memory) (n : BitVec 16) : (s.setBuffer m n).buflen = n := (rfl)
@[simp] theorem State.setBuffer_t1 (s : State) (m : Memory) (n : BitVec 16) : (s.setBuffer m n).t1 = s.t1 := (rfl)
@[simp] theorem State.setBuffer_t2 (s : State) (m : Memory) (n : BitVec 16) : (s.setBuffer m n).t2 = s.t2 := (rfl)
@[simp] theorem State.setBuffer_t3 (s : State) (m : Memory) (n : BitVec 16) : (s.setBuffer m n).t3 = s.t3 := (rfl)
@[simp] theorem State.setBuffer_t4 (s : State) (m : Memory) (n : BitVec 16) : (s.setBuffer m n).t4 = s.t4 := (rfl)
@[simp] theorem State.setBuffer_delta (s : State) (m : Memory) (n : BitVec 16) : (s.setBuffer m n).delta = s.delta := (rfl)
@[simp] theorem State.setBuffer_ndelay (s : State) (m : Memory) (n : BitVec 16) : (s.setBuffer m n).ndelay = s.ndelay := (rfl)
@[simp] theorem State.setBuffer_offset (s : State) (m : Memory) (n : BitVec 16) : (s.setBuffer m n).offset = s.offset := (rfl)
@[simp] theorem State.setBuffer_tsi (s : State) (m : Memory) (n : BitVec 16) : (s.setBuffer m n).tsi = s.tsi := (rfl)
@[simp] theorem State.setBuffer_phase (s : State) (m : Memory) (n : BitVec 16) : (s.setBuffer m n).phase = s.phase := (rfl)
@[simp] theorem State.setBuffer_err (s : State) (m : Memory) (n : BitVec 16) : (s.setBuffer m n).err = s.err := (rfl)
@[simp] theorem State.setBuffer_rsp (s : State) (m : Memory) (n : BitVec 16) : (s.setBuffer m n).rsp = s.rsp := (rfl)
@[simp] theorem State.setBuffer_port (s : State) (m : Memory) (n : BitVec 16) : (s.setBuffer m n).port = s.port := (rfl)
@[simp] theorem State.setBuffer_portOut (s : State) (m : Memory) (n : BitVec 16) : (s.setBuffer m n).portOut = s.portOut := (rfl)

@[simp] theorem State.setT1_pkt (s : State) (v : Word) : (s.setT1 v).pkt = s.pkt := (rfl)
@[simp] theorem State.setT1_buf (s : State) (v : Word) : (s.setT1 v).buf = s.buf := (rfl)
@[simp] theorem State.setT1_buflen (s : State) (v : Word) : (s.setT1 v).buflen = s.buflen := (rfl)
@[simp] theorem State.setT1_t1 (s : State) (v : Word) : (s.setT1 v).t1 = v := (rfl)
@[simp] theorem State.setT1_t2 (s : State) (v : Word) : (s.setT1 v).t2 = s.t2 := (rfl)
@[simp] theorem State.setT1_t3 (s : State) (v : Word) : (s.setT1 v).t3 = s.t3 := (rfl)
@[simp] theorem State.setT1_t4 (s : State) (v : Word) : (s.setT1 v).t4 = s.t4 := (rfl)
@[simp] theorem State.setT1_delta (s : State) (v : Word) : (s.setT1 v).delta = s.delta := (rfl)
@[simp] theorem State.setT1_ndelay (s : State) (v : Word) : (s.setT1 v).ndelay = s.ndelay := (rfl)
@[simp] theorem State.setT1_offset (s : State) (v : Word) : (s.setT1 v).offset = s.offset := (rfl)
@[simp] theorem State.setT1_tsi (s : State) (v : Word) : (s.setT1 v).tsi = s.tsi := (rfl)
@[simp] theorem State.setT1_phase (s : State) (v : Word) : (s.setT1 v).phase = s.phase := (rfl)
@[simp] theorem State.setT1_err (s : State) (v : Word) : (s.setT1 v).err = s.err := (rfl)
@[simp] theorem State.setT1_rsp (s : State) (v : Word) : (s.setT1 v).rsp = s.rsp := (rfl)
@[simp] theorem State.setT1_port (s : State) (v : Word) : (s.setT1 v).port = s.port := (rfl)
@[simp] theorem State.setT1_portOut (s : State) (v : Word) : (s.setT1 v).portOut = s.portOut := (rfl)

@[simp] theorem State.setT2_pkt (s : State) (v : Word) : (s.setT2 v).pkt = s.pkt := (rfl)
@[simp] theorem State.setT2_buf (s : State) (v : Word) : (s.setT2 v).buf = s.buf := (rfl)
@[simp] theorem State.setT2_buflen (s : State) (v : Word) : (s.setT2 v).buflen = s.buflen := (rfl)
@[simp] theorem State.setT2_t1 (s : State) (v : Word) : (s.setT2 v).t1 = s.t1 := (rfl)
@[simp] theorem State.setT2_t2 (s : State) (v : Word) : (s.setT2 v).t2 = v := (rfl)
@[simp] theorem State.setT2_t3 (s : State) (v : Word) : (s.setT2 v).t3 = s.t3 := (rfl)
@[simp] theorem State.setT2_t4 (s : State) (v : Word) : (s.setT2 v).t4 = s.t4 := (rfl)
@[simp] theorem State.setT2_delta (s : State) (v : Word) : (s.setT2 v).delta = s.delta := (rfl)
@[simp] theorem State.setT2_ndelay (s : State) (v : Word) : (s.setT2 v).ndelay = s.ndelay := (rfl)
@[simp] theorem State.setT2_offset (s : State) (v : Word) : (s.setT2 v).offset = s.offset := (rfl)
@[simp] theorem State.setT2_tsi (s : State) (v : Word) : (s.setT2 v).tsi = s.tsi := (rfl)
@[simp] theorem State.setT2_phase (s : State) (v : Word) : (s.setT2 v).phase = s.phase := (rfl)
@[simp] theorem State.setT2_err (s : State) (v : Word) : (s.setT2 v).err = s.err := (rfl)
@[simp] theorem State.setT2_rsp (s : State) (v : Word) : (s.setT2 v).rsp = s.rsp := (rfl)
@[simp] theorem State.setT2_port (s : State) (v : Word) : (s.setT2 v).port = s.port := (rfl)
@[simp] theorem State.setT2_portOut (s : State) (v : Word) : (s.setT2 v).portOut = s.portOut := (rfl)

@[simp] theorem State.setT3_pkt (s : State) (v : Word) : (s.setT3 v).pkt = s.pkt := (rfl)
@[simp] theorem State.setT3_buf (s : State) (v : Word) : (s.setT3 v).buf = s.buf := (rfl)
@[simp] theorem State.setT3_buflen (s : State) (v : Word) : (s.setT3 v).buflen = s.buflen := (rfl)
@[simp] theorem State.setT3_t1 (s : State) (v : Word) : (s.setT3 v).t1 = s.t1 := (rfl)
@[simp] theorem State.setT3_t2 (s : State) (v : Word) : (s.setT3 v).t2 = s.t2 := (rfl)
@[simp] theorem State.setT3_t3 (s : State) (v : Word) : (s.setT3 v).t3 = v := (rfl)
@[simp] theorem State.setT3_t4 (s : State) (v : Word) : (s.setT3 v).t4 = s.t4 := (rfl)
@[simp] theorem State.setT3_delta (s : State) (v : Word) : (s.setT3 v).delta = s.delta := (rfl)
@[simp] theorem State.setT3_ndelay (s : State) (v : Word) : (s.setT3 v).ndelay = s.ndelay := (rfl)
@[simp] theorem State.setT3_offset (s : State) (v : Word) : (s.setT3 v).offset = s.offset := (rfl)
@[simp] theorem State.setT3_tsi (s : State) (v : Word) : (s.setT3 v).tsi = s.tsi := (rfl)
@[simp] theorem State.setT3_phase (s : State) (v : Word) : (s.setT3 v).phase = s.phase := (rfl)
@[simp] theorem State.setT3_err (s : State) (v : Word) : (s.setT3 v).err = s.err := (rfl)
@[simp] theorem State.setT3_rsp (s : State) (v : Word) : (s.setT3 v).rsp = s.rsp := (rfl)
@[simp] theorem State.setT3_port (s : State) (v : Word) : (s.setT3 v).port = s.port := (rfl)
@[simp] theorem State.setT3_portOut (s : State) (v : Word) : (s.setT3 v).portOut = s.portOut := (rfl)

@[simp] theorem State.setT4_pkt (s : State) (v : Word) : (s.setT4 v).pkt = s.pkt := (rfl)
@[simp] theorem State.setT4_buf (s : State) (v : Word) : (s.setT4 v).buf = s.buf := (rfl)
@[simp] theorem State.setT4_buflen (s : State) (v : Word) : (s.setT4 v).buflen = s.buflen := (rfl)
@[simp] theorem State.setT4_t1 (s : State) (v : Word) : (s.setT4 v).t1 = s.t1 := (rfl)
@[simp] theorem State.setT4_t2 (s : State) (v : Word) : (s.setT4 v).t2 = s.t2 := (rfl)
@[simp] theorem State.setT4_t3 (s : State) (v : Word) : (s.setT4 v).t3 = s.t3 := (rfl)
@[simp] theorem State.setT4_t4 (s : State) (v : Word) : (s.setT4 v).t4 = v := (rfl)
@[simp] theorem State.setT4_delta (s : State) (v : Word) : (s.setT4 v).delta = s.delta := (rfl)
@[simp] theorem State.setT4_ndelay (s : State) (v : Word) : (s.setT4 v).ndelay = s.ndelay := (rfl)
@[simp] theorem State.setT4_offset (s : State) (v : Word) : (s.setT4 v).offset = s.offset := (rfl)
@[simp] theorem State.setT4_tsi (s : State) (v : Word) : (s.setT4 v).tsi = s.tsi := (rfl)
@[simp] theorem State.setT4_phase (s : State) (v : Word) : (s.setT4 v).phase = s.phase := (rfl)
@[simp] theorem State.setT4_err (s : State) (v : Word) : (s.setT4 v).err = s.err := (rfl)
@[simp] theorem State.setT4_rsp (s : State) (v : Word) : (s.setT4 v).rsp = s.rsp := (rfl)
@[simp] theorem State.setT4_port (s : State) (v : Word) : (s.setT4 v).port = s.port := (rfl)
@[simp] theorem State.setT4_portOut (s : State) (v : Word) : (s.setT4 v).portOut = s.portOut := (rfl)

@[simp] theorem State.setResults_pkt (s : State) (d n o : Word) : (s.setResults d n o).pkt = s.pkt := (rfl)
@[simp] theorem State.setResults_buf (s : State) (d n o : Word) : (s.setResults d n o).buf = s.buf := (rfl)
@[simp] theorem State.setResults_buflen (s : State) (d n o : Word) : (s.setResults d n o).buflen = s.buflen := (rfl)
@[simp] theorem State.setResults_t1 (s : State) (d n o : Word) : (s.setResults d n o).t1 = s.t1 := (rfl)
@[simp] theorem State.setResults_t2 (s : State) (d n o : Word) : (s.setResults d n o).t2 = s.t2 := (rfl)
@[simp] theorem State.setResults_t3 (s : State) (d n o : Word) : (s.setResults d n o).t3 = s.t3 := (rfl)
@[simp] theorem State.setResults_t4 (s : State) (d n o : Word) : (s.setResults d n o).t4 = s.t4 := (rfl)
@[simp] theorem State.setResults_delta (s : State) (d n o : Word) : (s.setResults d n o).delta = d := (rfl)
@[simp] theorem State.setResults_ndelay (s : State) (d n o : Word) : (s.setResults d n o).ndelay = n := (rfl)
@[simp] theorem State.setResults_offset (s : State) (d n o : Word) : (s.setResults d n o).offset = o := (rfl)
@[simp] theorem State.setResults_tsi (s : State) (d n o : Word) : (s.setResults d n o).tsi = s.tsi := (rfl)
@[simp] theorem State.setResults_phase (s : State) (d n o : Word) : (s.setResults d n o).phase = s.phase := (rfl)
@[simp] theorem State.setResults_err (s : State) (d n o : Word) : (s.setResults d n o).err = s.err := (rfl)
@[simp] theorem State.setResults_rsp (s : State) (d n o : Word) : (s.setResults d n o).rsp = s.rsp := (rfl)
@[simp] theorem State.setResults_port (s : State) (d n o : Word) : (s.setResults d n o).port = s.port := (rfl)
@[simp] theorem State.setResults_portOut (s : State) (d n o : Word) : (s.setResults d n o).portOut = s.portOut := (rfl)

@[simp] theorem State.setTsi_pkt (s : State) (v : Word) : (s.setTsi v).pkt = s.pkt := (rfl)
@[simp] theorem State.setTsi_buf (s : State) (v : Word) : (s.setTsi v).buf = s.buf := (rfl)
@[simp] theorem State.setTsi_buflen (s : State) (v : Word) : (s.setTsi v).buflen = s.buflen := (rfl)
@[simp] theorem State.setTsi_t1 (s : State) (v : Word) : (s.setTsi v).t1 = s.t1 := (rfl)
@[simp] theorem State.setTsi_t2 (s : State) (v : Word) : (s.setTsi v).t2 = s.t2 := (rfl)
@[simp] theorem State.setTsi_t3 (s : State) (v : Word) : (s.setTsi v).t3 = s.t3 := (rfl)
@[simp] theorem State.setTsi_t4 (s : State) (v : Word) : (s.setTsi v).t4 = s.t4 := (rfl)
@[simp] theorem State.setTsi_delta (s : State) (v : Word) : (s.setTsi v).delta = s.delta := (rfl)
@[simp] theorem State.setTsi_ndelay (s : State) (v : Word) : (s.setTsi v).ndelay = s.ndelay := (rfl)
@[simp] theorem State.setTsi_offset (s : State) (v : Word) : (s.setTsi v).offset = s.offset := (rfl)
@[simp] theorem State.setTsi_tsi (s : State) (v : Word) : (s.setTsi v).tsi = v := (rfl)
@[simp] theorem State.setTsi_phase (s : State) (v : Word) : (s.setTsi v).phase = s.phase := (rfl)
@[simp] theorem State.setTsi_err (s : State) (v : Word) : (s.setTsi v).err = s.err := (rfl)
@[simp] theorem State.setTsi_rsp (s : State) (v : Word) : (s.setTsi v).rsp = s.rsp := (rfl)
@[simp] theorem State.setTsi_port (s : State) (v : Word) : (s.setTsi v).port = s.port := (rfl)
@[simp] theorem State.setTsi_portOut (s : State) (v : Word) : (s.setTsi v).portOut = s.portOut := (rfl)

@[simp] theorem State.setPhase_pkt (s : State) (p : Phase) : (s.setPhase p).pkt = s.pkt := (rfl)
@[simp] theorem State.setPhase_buf (s : State) (p : Phase) : (s.setPhase p).buf = s.buf := (rfl)
@[simp] theorem State.setPhase_buflen (s : State) (p : Phase) : (s.setPhase p).buflen = s.buflen := (rfl)
@[simp] theorem State.setPhase_t1 (s : State) (p : Phase) : (s.setPhase p).t1 = s.t1 := (rfl)
@[simp] theorem State.setPhase_t2 (s : State) (p : Phase) : (s.setPhase p).t2 = s.t2 := (rfl)
@[simp] theorem State.setPhase_t3 (s : State) (p : Phase) : (s.setPhase p).t3 = s.t3 := (rfl)
@[simp] theorem State.setPhase_t4 (s : State) (p : Phase) : (s.setPhase p).t4 = s.t4 := (rfl)
@[simp] theorem State.setPhase_delta (s : State) (p : Phase) : (s.setPhase p).delta = s.delta := (rfl)
@[simp] theorem State.setPhase_ndelay (s : State) (p : Phase) : (s.setPhase p).ndelay = s.ndelay := (rfl)
@[simp] theorem State.setPhase_offset (s : State) (p : Phase) : (s.setPhase p).offset = s.offset := (rfl)
@[simp] theorem State.setPhase_tsi (s : State) (p : Phase) : (s.setPhase p).tsi = s.tsi := (rfl)
@[simp] theorem State.setPhase_phase (s : State) (p : Phase) : (s.setPhase p).phase = p := (rfl)
@[simp] theorem State.setPhase_err (s : State) (p : Phase) : (s.setPhase p).err = s.err := (rfl)
@[simp] theorem State.setPhase_rsp (s : State) (p : Phase) : (s.setPhase p).rsp = s.rsp := (rfl)
@[simp] theorem State.setPhase_port (s : State) (p : Phase) : (s.setPhase p).port = s.port := (rfl)
@[simp] theorem State.setPhase_portOut (s : State) (p : Phase) : (s.setPhase p).portOut = s.portOut := (rfl)

@[simp] theorem State.setErr_pkt (s : State) (e : Option ErrorKind) : (s.setErr e).pkt = s.pkt := (rfl)
@[simp] theorem State.setErr_buf (s : State) (e : Option ErrorKind) : (s.setErr e).buf = s.buf := (rfl)
@[simp] theorem State.setErr_buflen (s : State) (e : Option ErrorKind) : (s.setErr e).buflen = s.buflen := (rfl)
@[simp] theorem State.setErr_t1 (s : State) (e : Option ErrorKind) : (s.setErr e).t1 = s.t1 := (rfl)
@[simp] theorem State.setErr_t2 (s : State) (e : Option ErrorKind) : (s.setErr e).t2 = s.t2 := (rfl)
@[simp] theorem State.setErr_t3 (s : State) (e : Option ErrorKind) : (s.setErr e).t3 = s.t3 := (rfl)
@[simp] theorem State.setErr_t4 (s : State) (e : Option ErrorKind) : (s.setErr e).t4 = s.t4 := (rfl)
@[simp] theorem State.setErr_delta (s : State) (e : Option ErrorKind) : (s.setErr e).delta = s.delta := (rfl)
@[simp] theorem State.setErr_ndelay (s : State) (e : Option ErrorKind) : (s.setErr e).ndelay = s.ndelay := (rfl)
@[simp] theorem State.setErr_offset (s : State) (e : Option ErrorKind) : (s.setErr e).offset = s.offset := (rfl)
@[simp] theorem State.setErr_tsi (s : State) (e : Option ErrorKind) : (s.setErr e).tsi = s.tsi := (rfl)
@[simp] theorem State.setErr_phase (s : State) (e : Option ErrorKind) : (s.setErr e).phase = s.phase := (rfl)
@[simp] theorem State.setErr_err (s : State) (e : Option ErrorKind) : (s.setErr e).err = e := (rfl)
@[simp] theorem State.setErr_rsp (s : State) (e : Option ErrorKind) : (s.setErr e).rsp = s.rsp := (rfl)
@[simp] theorem State.setErr_port (s : State) (e : Option ErrorKind) : (s.setErr e).port = s.port := (rfl)
@[simp] theorem State.setErr_portOut (s : State) (e : Option ErrorKind) : (s.setErr e).portOut = s.portOut := (rfl)

@[simp] theorem State.setPortOut_pkt (s : State) (o : PortOut) : (s.setPortOut o).pkt = s.pkt := (rfl)
@[simp] theorem State.setPortOut_buf (s : State) (o : PortOut) : (s.setPortOut o).buf = s.buf := (rfl)
@[simp] theorem State.setPortOut_buflen (s : State) (o : PortOut) : (s.setPortOut o).buflen = s.buflen := (rfl)
@[simp] theorem State.setPortOut_t1 (s : State) (o : PortOut) : (s.setPortOut o).t1 = s.t1 := (rfl)
@[simp] theorem State.setPortOut_t2 (s : State) (o : PortOut) : (s.setPortOut o).t2 = s.t2 := (rfl)
@[simp] theorem State.setPortOut_t3 (s : State) (o : PortOut) : (s.setPortOut o).t3 = s.t3 := (rfl)
@[simp] theorem State.setPortOut_t4 (s : State) (o : PortOut) : (s.setPortOut o).t4 = s.t4 := (rfl)
@[simp] theorem State.setPortOut_delta (s : State) (o : PortOut) : (s.setPortOut o).delta = s.delta := (rfl)
@[simp] theorem State.setPortOut_ndelay (s : State) (o : PortOut) : (s.setPortOut o).ndelay = s.ndelay := (rfl)
@[simp] theorem State.setPortOut_offset (s : State) (o : PortOut) : (s.setPortOut o).offset = s.offset := (rfl)
@[simp] theorem State.setPortOut_tsi (s : State) (o : PortOut) : (s.setPortOut o).tsi = s.tsi := (rfl)
@[simp] theorem State.setPortOut_phase (s : State) (o : PortOut) : (s.setPortOut o).phase = s.phase := (rfl)
@[simp] theorem State.setPortOut_err (s : State) (o : PortOut) : (s.setPortOut o).err = s.err := (rfl)
@[simp] theorem State.setPortOut_rsp (s : State) (o : PortOut) : (s.setPortOut o).rsp = s.rsp := (rfl)
@[simp] theorem State.setPortOut_port (s : State) (o : PortOut) : (s.setPortOut o).port = s.port := (rfl)
@[simp] theorem State.setPortOut_portOut (s : State) (o : PortOut) : (s.setPortOut o).portOut = o := (rfl)

@[simp] theorem State.setPort_pkt (s : State) (q : List Transaction) : (s.setPort q).pkt = s.pkt := (rfl)
@[simp] theorem State.setPort_buf (s : State) (q : List Transaction) : (s.setPort q).buf = s.buf := (rfl)
@[simp] theorem State.setPort_buflen (s : State) (q : List Transaction) : (s.setPort q).buflen = s.buflen := (rfl)
@[simp] theorem State.setPort_t1 (s : State) (q : List Transaction) : (s.setPort q).t1 = s.t1 := (rfl)
@[simp] theorem State.setPort_t2 (s : State) (q : List Transaction) : (s.setPort q).t2 = s.t2 := (rfl)
@[simp] theorem State.setPort_t3 (s : State) (q : List Transaction) : (s.setPort q).t3 = s.t3 := (rfl)
@[simp] theorem State.setPort_t4 (s : State) (q : List Transaction) : (s.setPort q).t4 = s.t4 := (rfl)
@[simp] theorem State.setPort_delta (s : State) (q : List Transaction) : (s.setPort q).delta = s.delta := (rfl)
@[simp] theorem State.setPort_ndelay (s : State) (q : List Transaction) : (s.setPort q).ndelay = s.ndelay := (rfl)
@[simp] theorem State.setPort_offset (s : State) (q : List Transaction) : (s.setPort q).offset = s.offset := (rfl)
@[simp] theorem State.setPort_tsi (s : State) (q : List Transaction) : (s.setPort q).tsi = s.tsi := (rfl)
@[simp] theorem State.setPort_phase (s : State) (q : List Transaction) : (s.setPort q).phase = s.phase := (rfl)
@[simp] theorem State.setPort_err (s : State) (q : List Transaction) : (s.setPort q).err = s.err := (rfl)
@[simp] theorem State.setPort_rsp (s : State) (q : List Transaction) : (s.setPort q).rsp = s.rsp := (rfl)
@[simp] theorem State.setPort_port (s : State) (q : List Transaction) : (s.setPort q).port = q := (rfl)
@[simp] theorem State.setPort_portOut (s : State) (q : List Transaction) : (s.setPort q).portOut = s.portOut := (rfl)

@[simp] theorem State.respond_pkt (s : State) (r : Response) : (s.respond r).pkt = s.pkt := (rfl)
@[simp] theorem State.respond_buf (s : State) (r : Response) : (s.respond r).buf = s.buf := (rfl)
@[simp] theorem State.respond_buflen (s : State) (r : Response) : (s.respond r).buflen = s.buflen := (rfl)
@[simp] theorem State.respond_t1 (s : State) (r : Response) : (s.respond r).t1 = s.t1 := (rfl)
@[simp] theorem State.respond_t2 (s : State) (r : Response) : (s.respond r).t2 = s.t2 := (rfl)
@[simp] theorem State.respond_t3 (s : State) (r : Response) : (s.respond r).t3 = s.t3 := (rfl)
@[simp] theorem State.respond_t4 (s : State) (r : Response) : (s.respond r).t4 = s.t4 := (rfl)
@[simp] theorem State.respond_delta (s : State) (r : Response) : (s.respond r).delta = s.delta := (rfl)
@[simp] theorem State.respond_ndelay (s : State) (r : Response) : (s.respond r).ndelay = s.ndelay := (rfl)
@[simp] theorem State.respond_offset (s : State) (r : Response) : (s.respond r).offset = s.offset := (rfl)
@[simp] theorem State.respond_tsi (s : State) (r : Response) : (s.respond r).tsi = s.tsi := (rfl)
@[simp] theorem State.respond_phase (s : State) (r : Response) : (s.respond r).phase = s.phase := (rfl)
@[simp] theorem State.respond_err (s : State) (r : Response) : (s.respond r).err = s.err := (rfl)
@[simp] theorem State.respond_rsp (s : State) (r : Response) : (s.respond r).rsp = r := (rfl)
@[simp] theorem State.respond_port (s : State) (r : Response) : (s.respond r).port = s.port := (rfl)
@[simp] theorem State.respond_portOut (s : State) (r : Response) : (s.respond r).portOut = .code r := (rfl)

@[simp] theorem State.refuse_pkt (s : State) : s.refuse.pkt = s.pkt := (rfl)
@[simp] theorem State.refuse_buf (s : State) : s.refuse.buf = s.buf := (rfl)
@[simp] theorem State.refuse_buflen (s : State) : s.refuse.buflen = s.buflen := (rfl)
@[simp] theorem State.refuse_t1 (s : State) : s.refuse.t1 = s.t1 := (rfl)
@[simp] theorem State.refuse_t2 (s : State) : s.refuse.t2 = s.t2 := (rfl)
@[simp] theorem State.refuse_t3 (s : State) : s.refuse.t3 = s.t3 := (rfl)
@[simp] theorem State.refuse_t4 (s : State) : s.refuse.t4 = s.t4 := (rfl)
@[simp] theorem State.refuse_delta (s : State) : s.refuse.delta = s.delta := (rfl)
@[simp] theorem State.refuse_ndelay (s : State) : s.refuse.ndelay = s.ndelay := (rfl)
@[simp] theorem State.refuse_offset (s : State) : s.refuse.offset = s.offset := (rfl)
@[simp] theorem State.refuse_tsi (s : State) : s.refuse.tsi = s.tsi := (rfl)
@[simp] theorem State.refuse_phase (s : State) : s.refuse.phase = s.phase := (rfl)
@[simp] theorem State.refuse_err (s : State) : s.refuse.err = s.err := (rfl)
@[simp] theorem State.refuse_rsp (s : State) : s.refuse.rsp = .refused := (rfl)
@[simp] theorem State.refuse_port (s : State) : s.refuse.port = s.port := (rfl)
@[simp] theorem State.refuse_portOut (s : State) : s.refuse.portOut = .code .refused := (rfl)

@[simp] theorem State.raise_pkt (s : State) (k : ErrorKind) : (s.raise k).pkt = s.pkt := (rfl)
@[simp] theorem State.raise_buf (s : State) (k : ErrorKind) : (s.raise k).buf = s.buf := (rfl)
@[simp] theorem State.raise_buflen (s : State) (k : ErrorKind) : (s.raise k).buflen = s.buflen := (rfl)
@[simp] theorem State.raise_t1 (s : State) (k : ErrorKind) : (s.raise k).t1 = s.t1 := (rfl)
@[simp] theorem State.raise_t2 (s : State) (k : ErrorKind) : (s.raise k).t2 = s.t2 := (rfl)
@[simp] theorem State.raise_t3 (s : State) (k : ErrorKind) : (s.raise k).t3 = s.t3 := (rfl)
@[simp] theorem State.raise_t4 (s : State) (k : ErrorKind) : (s.raise k).t4 = s.t4 := (rfl)
@[simp] theorem State.raise_delta (s : State) (k : ErrorKind) : (s.raise k).delta = s.delta := (rfl)
@[simp] theorem State.raise_ndelay (s : State) (k : ErrorKind) : (s.raise k).ndelay = s.ndelay := (rfl)
@[simp] theorem State.raise_offset (s : State) (k : ErrorKind) : (s.raise k).offset = s.offset := (rfl)
@[simp] theorem State.raise_tsi (s : State) (k : ErrorKind) : (s.raise k).tsi = s.tsi := (rfl)
@[simp] theorem State.raise_phase (s : State) (k : ErrorKind) : (s.raise k).phase = s.phase := (rfl)
@[simp] theorem State.raise_err (s : State) (k : ErrorKind) : (s.raise k).err = s.err := (rfl)
@[simp] theorem State.raise_rsp (s : State) (k : ErrorKind) : (s.raise k).rsp = .error k := (rfl)
@[simp] theorem State.raise_port (s : State) (k : ErrorKind) : (s.raise k).port = s.port := (rfl)
@[simp] theorem State.raise_portOut (s : State) (k : ErrorKind) : (s.raise k).portOut = .code (.error k) := (rfl)

@[simp] theorem State.takeFailure_pkt (s : State) (k : ErrorKind) (r : Response) : (s.takeFailure k r).pkt = s.pkt := (rfl)
@[simp] theorem State.takeFailure_buf (s : State) (k : ErrorKind) (r : Response) : (s.takeFailure k r).buf = s.buf := (rfl)
@[simp] theorem State.takeFailure_buflen (s : State) (k : ErrorKind) (r : Response) : (s.takeFailure k r).buflen = s.buflen := (rfl)
@[simp] theorem State.takeFailure_t1 (s : State) (k : ErrorKind) (r : Response) : (s.takeFailure k r).t1 = s.t1 := (rfl)
@[simp] theorem State.takeFailure_t2 (s : State) (k : ErrorKind) (r : Response) : (s.takeFailure k r).t2 = s.t2 := (rfl)
@[simp] theorem State.takeFailure_t3 (s : State) (k : ErrorKind) (r : Response) : (s.takeFailure k r).t3 = s.t3 := (rfl)
@[simp] theorem State.takeFailure_t4 (s : State) (k : ErrorKind) (r : Response) : (s.takeFailure k r).t4 = s.t4 := (rfl)
@[simp] theorem State.takeFailure_delta (s : State) (k : ErrorKind) (r : Response) : (s.takeFailure k r).delta = s.delta := (rfl)
@[simp] theorem State.takeFailure_ndelay (s : State) (k : ErrorKind) (r : Response) : (s.takeFailure k r).ndelay = s.ndelay := (rfl)
@[simp] theorem State.takeFailure_offset (s : State) (k : ErrorKind) (r : Response) : (s.takeFailure k r).offset = s.offset := (rfl)
@[simp] theorem State.takeFailure_tsi (s : State) (k : ErrorKind) (r : Response) : (s.takeFailure k r).tsi = s.tsi := (rfl)
@[simp] theorem State.takeFailure_phase (s : State) (k : ErrorKind) (r : Response) : (s.takeFailure k r).phase = .failed := (rfl)
@[simp] theorem State.takeFailure_err (s : State) (k : ErrorKind) (r : Response) : (s.takeFailure k r).err = some k := (rfl)
@[simp] theorem State.takeFailure_rsp (s : State) (k : ErrorKind) (r : Response) : (s.takeFailure k r).rsp = r := (rfl)
@[simp] theorem State.takeFailure_port (s : State) (k : ErrorKind) (r : Response) : (s.takeFailure k r).port = s.port := (rfl)
@[simp] theorem State.takeFailure_portOut (s : State) (k : ErrorKind) (r : Response) : (s.takeFailure k r).portOut = .code r := (rfl)

@[simp] theorem State.freshInstance_pkt (s : State) : s.freshInstance.pkt = State.reset.pkt := (rfl)
@[simp] theorem State.freshInstance_buf (s : State) : s.freshInstance.buf = State.reset.buf := (rfl)
@[simp] theorem State.freshInstance_buflen (s : State) : s.freshInstance.buflen = State.reset.buflen := (rfl)
@[simp] theorem State.freshInstance_t1 (s : State) : s.freshInstance.t1 = State.reset.t1 := (rfl)
@[simp] theorem State.freshInstance_t2 (s : State) : s.freshInstance.t2 = State.reset.t2 := (rfl)
@[simp] theorem State.freshInstance_t3 (s : State) : s.freshInstance.t3 = State.reset.t3 := (rfl)
@[simp] theorem State.freshInstance_t4 (s : State) : s.freshInstance.t4 = State.reset.t4 := (rfl)
@[simp] theorem State.freshInstance_delta (s : State) : s.freshInstance.delta = State.reset.delta := (rfl)
@[simp] theorem State.freshInstance_ndelay (s : State) : s.freshInstance.ndelay = State.reset.ndelay := (rfl)
@[simp] theorem State.freshInstance_offset (s : State) : s.freshInstance.offset = State.reset.offset := (rfl)
@[simp] theorem State.freshInstance_tsi (s : State) : s.freshInstance.tsi = State.reset.tsi := (rfl)
@[simp] theorem State.freshInstance_phase (s : State) : s.freshInstance.phase = State.reset.phase := (rfl)
@[simp] theorem State.freshInstance_err (s : State) : s.freshInstance.err = State.reset.err := (rfl)
@[simp] theorem State.freshInstance_rsp (s : State) : s.freshInstance.rsp = State.reset.rsp := (rfl)
@[simp] theorem State.freshInstance_port (s : State) : s.freshInstance.port = s.port := (rfl)
@[simp] theorem State.freshInstance_portOut (s : State) : s.freshInstance.portOut = s.portOut := (rfl)

@[simp] theorem State.serialize_pkt (s : State) : s.serialize.pkt = s.pkt := (rfl)
@[simp] theorem State.serialize_buf (s : State) : s.serialize.buf = pack s.pkt s.buf := by rw [State.serialize, State.setBuffer_buf]
@[simp] theorem State.serialize_buflen (s : State) : s.serialize.buflen = BitVec.ofNat 16 Config.packetBytes := (rfl)
@[simp] theorem State.serialize_t1 (s : State) : s.serialize.t1 = s.t1 := (rfl)
@[simp] theorem State.serialize_t2 (s : State) : s.serialize.t2 = s.t2 := (rfl)
@[simp] theorem State.serialize_t3 (s : State) : s.serialize.t3 = s.t3 := (rfl)
@[simp] theorem State.serialize_t4 (s : State) : s.serialize.t4 = s.t4 := (rfl)
@[simp] theorem State.serialize_delta (s : State) : s.serialize.delta = s.delta := (rfl)
@[simp] theorem State.serialize_ndelay (s : State) : s.serialize.ndelay = s.ndelay := (rfl)
@[simp] theorem State.serialize_offset (s : State) : s.serialize.offset = s.offset := (rfl)
@[simp] theorem State.serialize_tsi (s : State) : s.serialize.tsi = s.tsi := (rfl)
@[simp] theorem State.serialize_phase (s : State) : s.serialize.phase = s.phase := (rfl)
@[simp] theorem State.serialize_err (s : State) : s.serialize.err = s.err := (rfl)
@[simp] theorem State.serialize_rsp (s : State) : s.serialize.rsp = s.rsp := (rfl)
@[simp] theorem State.serialize_port (s : State) : s.serialize.port = s.port := (rfl)
@[simp] theorem State.serialize_portOut (s : State) : s.serialize.portOut = s.portOut := (rfl)

@[simp] theorem State.calc_pkt (s : State) : s.calc.pkt = s.pkt := (rfl)
@[simp] theorem State.calc_buf (s : State) : s.calc.buf = s.buf := (rfl)
@[simp] theorem State.calc_buflen (s : State) : s.calc.buflen = s.buflen := (rfl)
@[simp] theorem State.calc_t1 (s : State) : s.calc.t1 = s.t1 := (rfl)
@[simp] theorem State.calc_t2 (s : State) : s.calc.t2 = s.t2 := (rfl)
@[simp] theorem State.calc_t3 (s : State) : s.calc.t3 = s.t3 := (rfl)
@[simp] theorem State.calc_t4 (s : State) : s.calc.t4 = s.t4 := (rfl)
@[simp] theorem State.calc_delta (s : State) : s.calc.delta = calcDelta s := (rfl)
@[simp] theorem State.calc_ndelay (s : State) : s.calc.ndelay = sdiv2 (calcDelta s) := (rfl)
@[simp] theorem State.calc_offset (s : State) : s.calc.offset = calcOffset s := (rfl)
@[simp] theorem State.calc_tsi (s : State) : s.calc.tsi = s.tsi := (rfl)
@[simp] theorem State.calc_phase (s : State) : s.calc.phase = s.phase := (rfl)
@[simp] theorem State.calc_err (s : State) : s.calc.err = s.err := (rfl)
@[simp] theorem State.calc_rsp (s : State) : s.calc.rsp = s.rsp := (rfl)
@[simp] theorem State.calc_port (s : State) : s.calc.port = s.port := (rfl)
@[simp] theorem State.calc_portOut (s : State) : s.calc.portOut = s.portOut := (rfl)

@[simp] theorem State.decodeReply_pkt (s : State) : s.decodeReply.pkt = unpack s.buf := (rfl)
@[simp] theorem State.decodeReply_buf (s : State) : s.decodeReply.buf = s.buf := (rfl)
@[simp] theorem State.decodeReply_buflen (s : State) : s.decodeReply.buflen = s.buflen := (rfl)
@[simp] theorem State.decodeReply_t1 (s : State) : s.decodeReply.t1 = s.t1 := (rfl)
@[simp] theorem State.decodeReply_t2 (s : State) : s.decodeReply.t2 = instant (unpack s.buf).rxts := (rfl)
@[simp] theorem State.decodeReply_t3 (s : State) : s.decodeReply.t3 = instant (unpack s.buf).txts := (rfl)
@[simp] theorem State.decodeReply_t4 (s : State) : s.decodeReply.t4 = s.t4 := (rfl)
@[simp] theorem State.decodeReply_delta (s : State) : s.decodeReply.delta = s.delta := (rfl)
@[simp] theorem State.decodeReply_ndelay (s : State) : s.decodeReply.ndelay = s.ndelay := (rfl)
@[simp] theorem State.decodeReply_offset (s : State) : s.decodeReply.offset = s.offset := (rfl)
@[simp] theorem State.decodeReply_tsi (s : State) : s.decodeReply.tsi = s.tsi := (rfl)
@[simp] theorem State.decodeReply_phase (s : State) : s.decodeReply.phase = s.phase := (rfl)
@[simp] theorem State.decodeReply_err (s : State) : s.decodeReply.err = s.err := (rfl)
@[simp] theorem State.decodeReply_rsp (s : State) : s.decodeReply.rsp = s.rsp := (rfl)
@[simp] theorem State.decodeReply_port (s : State) : s.decodeReply.port = s.port := (rfl)
@[simp] theorem State.decodeReply_portOut (s : State) : s.decodeReply.portOut = s.portOut := (rfl)

@[simp] theorem State.reset_pkt : State.reset.pkt = Packet.zero := (rfl)
@[simp] theorem State.reset_buf : State.reset.buf = [] := (rfl)
@[simp] theorem State.reset_buflen : State.reset.buflen = 0 := (rfl)
@[simp] theorem State.reset_t1 : State.reset.t1 = 0 := (rfl)
@[simp] theorem State.reset_t2 : State.reset.t2 = 0 := (rfl)
@[simp] theorem State.reset_t3 : State.reset.t3 = 0 := (rfl)
@[simp] theorem State.reset_t4 : State.reset.t4 = 0 := (rfl)
@[simp] theorem State.reset_delta : State.reset.delta = 0 := (rfl)
@[simp] theorem State.reset_ndelay : State.reset.ndelay = 0 := (rfl)
@[simp] theorem State.reset_offset : State.reset.offset = 0 := (rfl)
@[simp] theorem State.reset_tsi : State.reset.tsi = 0 := (rfl)
@[simp] theorem State.reset_phase : State.reset.phase = .idle := (rfl)
@[simp] theorem State.reset_err : State.reset.err = none := (rfl)
@[simp] theorem State.reset_rsp : State.reset.rsp = .ok := (rfl)
@[simp] theorem State.reset_port : State.reset.port = [] := (rfl)
@[simp] theorem State.reset_portOut : State.reset.portOut = .nothing := (rfl)

end Sys2Proof.Machine
end

