-- ==== Sys2Proof/Laws/Arithmetic.lean ====
section
/-! SUPPORT. The exact values of the timestamp conversion and of the halving, and what `calc` leaves in each register. -/

namespace Sys2Proof.Machine

/-- The seconds of a timestamp, as a number. -/
theorem toNat_tsSeconds (ts : Word) : (tsSeconds ts).toNat = ts.toNat / 2 ^ 32 := by
  have h := ts.isLt
  simp only [tsSeconds, BitVec.toNat_setWidth, BitVec.extractLsb'_toNat, Nat.shiftRight_eq_div_pow]
  omega

/-- The fraction of a timestamp, as a number. -/
theorem toNat_tsFraction (ts : Word) : (tsFraction ts).toNat = ts.toNat % 2 ^ 32 := by
  simp only [tsFraction, BitVec.toNat_setWidth, BitVec.extractLsb'_toNat, Nat.shiftRight_zero]
  omega

/-- `instant` is the exact conversion: none of its steps overflows (42_timestamp.md R112). -/
theorem toNat_instant (ts : Word) : (instant ts).toNat = timestampNs ts := by
  have h := ts.isLt
  have hs := toNat_tsSeconds ts
  have hf := toNat_tsFraction ts
  have hsec : (tsSeconds ts * Config.nsPerSecond).toNat = ts.toNat / 2 ^ 32 * 1000000000 := by
    rw [BitVec.toNat_mul, hs, show Config.nsPerSecond.toNat = 1000000000 from rfl]
    omega
  have hfrac : (tsFraction ts * Config.nsPerSecond).toNat = ts.toNat % 2 ^ 32 * 1000000000 := by
    rw [BitVec.toNat_mul, hf, show Config.nsPerSecond.toNat = 1000000000 from rfl]
    omega
  rw [instant, timestampNs, BitVec.toNat_add, BitVec.toNat_ushiftRight, hsec, hfrac, Nat.shiftRight_eq_div_pow]
  omega

/-- The largest converted timestamp is INSTANT_MAX (42_timestamp.md R112). -/
theorem timestampNs_le (ts : Word) : timestampNs ts ≤ Config.instantMax := by
  have h := ts.isLt
  simp only [timestampNs, Config.instantMax]
  omega

/-- Division by 2 toward zero, by sign. -/
theorem tdiv_two (x : Int) : (0 ≤ x ∧ x.tdiv 2 = x / 2) ∨ (x < 0 ∧ x.tdiv 2 = -(-x / 2)) := by
  rcases lt_or_ge x 0 with h | h
  · refine .inr ⟨h, ?_⟩
    rw [← Int.tdiv_eq_ediv_of_nonneg (by omega), Int.neg_tdiv, Int.neg_neg]
  · exact .inl ⟨h, Int.tdiv_eq_ediv_of_nonneg h⟩

/-- `sdiv2` never overflows: it is the exact quotient rounded toward zero (43_offset.md R123). -/
theorem toInt_sdiv2 (d : Word) : (sdiv2 d).toInt = d.toInt.tdiv 2 := by
  have h1 := BitVec.le_toInt d
  have h2 := BitVec.toInt_lt (x := d)
  have h3 := tdiv_two d.toInt
  rw [sdiv2, BitVec.toInt_ofInt]
  apply Int.bmod_eq_of_le <;> omega

/-- `sdiv2` is determined by its integer value. -/
theorem eq_sdiv2_iff (n d : Word) : n = sdiv2 d ↔ n.toInt = d.toInt.tdiv 2 := by
  rw [← toInt_sdiv2, BitVec.toInt_inj]

end Sys2Proof.Machine
end

