-- ==== Sys2Proof/Laws/Memory.lean ====
section
/-! SUPPORT. The laws of BUF: a read after a write, canonical form, equal reads mean equal buffers, and the wider accesses. -/

namespace Sys2Proof.Machine

@[simp] theorem Memory.read_nil (a : Nat) : Memory.read [] a = 0 := rfl

theorem Memory.read_cons (b : Nat) (v : Byte) (rest : Memory) (a : Nat) :
    Memory.read ((b, v) :: rest) a = if b = a then v else Memory.read rest a := rfl

/-- An address below every listed one reads 0. -/
theorem Memory.read_of_below {m : Memory} {a : Nat} (h : ∀ c ∈ m, a < c.1) : m.read a = 0 := by
  induction m with
  | nil => rfl
  | cons c rest ih =>
    obtain ⟨b, v⟩ := c
    have hb : a < b := h (b, v) (List.mem_cons_self ..)
    rw [Memory.read_cons, if_neg (Nat.ne_of_gt hb)]
    exact ih fun c hc => h c (List.mem_cons_of_mem _ hc)

/-- The canonical form, taken apart at the head. -/
theorem Memory.wf_cons {b : Nat} {v : Byte} {rest : Memory} :
    Memory.wf ((b, v) :: rest) = true ↔
      b < Config.packetBytes ∧ v ≠ 0 ∧ (∀ c ∈ rest, b < c.1) ∧ Memory.wf rest = true := by
  simp [Memory.wf, and_assoc]

@[simp] theorem Memory.wf_nil : Memory.wf [] = true := rfl

theorem Memory.read_put_other (m : Memory) {a c : Nat} (v : Byte) (h : c ≠ a) : (m.put a v).read c = m.read c := by
  induction m with
  | nil =>
    unfold Memory.put
    split <;> simp [Memory.read_cons, Ne.symm h]
  | cons e rest ih =>
    obtain ⟨b, x⟩ := e
    unfold Memory.put
    split
    · split <;> simp [Memory.read_cons, Ne.symm h]
    · split
      · subst a
        split <;> simp [Memory.read_cons, Ne.symm h]
      · simp [Memory.read_cons, ih]

theorem Memory.read_put_same {m : Memory} (hm : m.wf = true) (a : Nat) (v : Byte) : (m.put a v).read a = v := by
  induction m with
  | nil =>
    unfold Memory.put
    split
    · next hv => rw [hv]; rfl
    · simp [Memory.read_cons]
  | cons e rest ih =>
    obtain ⟨b, x⟩ := e
    obtain ⟨-, -, hbelow, hrest⟩ := Memory.wf_cons.mp hm
    unfold Memory.put
    split
    · next hlt =>
      split
      · next hv =>
        rw [hv]
        refine Memory.read_of_below fun c hc => ?_
        rcases List.mem_cons.mp hc with rfl | hc
        · exact hlt
        · exact Nat.lt_trans hlt (hbelow c hc)
      · simp [Memory.read_cons]
    · split
      · next hab =>
        subst hab
        split
        · next hv => rw [hv]; exact Memory.read_of_below hbelow
        · simp [Memory.read_cons]
      · next hne => rw [Memory.read_cons, if_neg (Ne.symm hne)]; exact ih hrest

/-- A put adds at most its own address. -/
theorem Memory.mem_put {m : Memory} {a : Nat} {v : Byte} {c : Host.Cell} (h : c ∈ m.put a v) : c = (a, v) ∨ c ∈ m := by
  induction m with
  | nil =>
    unfold Memory.put at h
    split at h <;> simp_all
  | cons e rest ih =>
    obtain ⟨b, x⟩ := e
    unfold Memory.put at h
    split at h
    · split at h <;> simp_all
    · split at h
      · split at h
        · exact .inr (List.mem_cons_of_mem _ h)
        · exact (List.mem_cons.mp h).imp id (List.mem_cons_of_mem _)
      · rcases List.mem_cons.mp h with h | h
        · exact .inr (h ▸ List.mem_cons_self ..)
        · exact (ih h).imp id (List.mem_cons_of_mem _)

theorem Memory.wf_put {m : Memory} (hm : m.wf = true) {a : Nat} (ha : a < Config.packetBytes) (v : Byte) :
    (m.put a v).wf = true := by
  induction m with
  | nil =>
    unfold Memory.put
    split
    · rfl
    · next hv => exact Memory.wf_cons.mpr ⟨ha, hv, by simp, rfl⟩
  | cons e rest ih =>
    obtain ⟨b, x⟩ := e
    obtain ⟨hb, hx, hbelow, hrest⟩ := Memory.wf_cons.mp hm
    unfold Memory.put
    split
    · next hlt =>
      split
      · exact hm
      · next hv =>
        refine Memory.wf_cons.mpr ⟨ha, hv, fun c hc => ?_, hm⟩
        rcases List.mem_cons.mp hc with rfl | hc
        · exact hlt
        · exact Nat.lt_trans hlt (hbelow c hc)
    · split
      · next hab =>
        subst hab
        split
        · exact hrest
        · next hv => exact Memory.wf_cons.mpr ⟨ha, hv, hbelow, hrest⟩
      · next hge hne =>
        refine Memory.wf_cons.mpr ⟨hb, hx, fun c hc => ?_, ih hrest⟩
        rcases Memory.mem_put hc with rfl | hc
        · show b < a
          omega
        · exact hbelow c hc

/-- A read after a write to the same byte of BUF gives the value written. -/
theorem Memory.read_write_same {m : Memory} (hm : m.wf = true) {a : Nat} (ha : a < Config.packetBytes) (v : Byte) :
    (m.write a v).read a = v := by
  rw [Memory.write, if_pos ha]
  exact Memory.read_put_same hm a v

/-- A write leaves every other byte alone. -/
theorem Memory.read_write_other (m : Memory) {a c : Nat} (v : Byte) (h : c ≠ a) : (m.write a v).read c = m.read c := by
  unfold Memory.write
  split
  · exact Memory.read_put_other m v h
  · rfl

/-- A write keeps the canonical form. -/
theorem Memory.wf_write {m : Memory} (hm : m.wf = true) (a : Nat) (v : Byte) : (m.write a v).wf = true := by
  unfold Memory.write
  split
  · next ha => exact Memory.wf_put hm ha v
  · exact hm

/-- Consecutive writes keep the canonical form. -/
theorem Memory.wf_writeBytes {m : Memory} (hm : m.wf = true) (a : Nat) (bs : List Byte) :
    (m.writeBytes a bs).wf = true := by
  induction bs generalizing m a with
  | nil => exact hm
  | cons b bs ih => exact ih (Memory.wf_write hm a b) (a + 1)

/-- Consecutive writes leave every byte outside them alone. -/
theorem Memory.read_writeBytes_outside (m : Memory) (a : Nat) (bs : List Byte) {c : Nat}
    (h : c < a ∨ a + bs.length ≤ c) : (m.writeBytes a bs).read c = m.read c := by
  induction bs generalizing m a with
  | nil => rfl
  | cons b bs ih =>
    simp only [List.length_cons] at h
    rw [Memory.writeBytes, ih (m.write a b) (a + 1) (by omega), Memory.read_write_other m b (by omega)]

/-- Consecutive writes inside BUF place their bytes in order. -/
theorem Memory.read_writeBytes_inside {m : Memory} (hm : m.wf = true) (a : Nat) (bs : List Byte)
    (hin : a + bs.length ≤ Config.packetBytes) {i : Nat} (hi : i < bs.length) :
    (m.writeBytes a bs).read (a + i) = bs[i] := by
  induction bs generalizing m a i with
  | nil => exact absurd hi (Nat.not_lt_zero i)
  | cons b bs ih =>
    simp only [List.length_cons] at hin hi
    cases i with
    | zero =>
      rw [Memory.writeBytes, Nat.add_zero, Memory.read_writeBytes_outside _ _ _ (by omega)]
      exact Memory.read_write_same hm (by omega) b
    | succ i =>
      rw [Memory.writeBytes, show a + (i + 1) = a + 1 + i by omega,
        ih (Memory.wf_write hm a b) (a + 1) (by omega) (by omega)]
      rfl

/-- An address outside BUF reads 0 in a canonical buffer. -/
theorem Memory.read_outside {m : Memory} (hm : m.wf = true) {a : Nat} (ha : Config.packetBytes ≤ a) : m.read a = 0 := by
  induction m with
  | nil => rfl
  | cons e rest ih =>
    obtain ⟨b, x⟩ := e
    obtain ⟨hb, -, -, hrest⟩ := Memory.wf_cons.mp hm
    rw [Memory.read_cons, if_neg (by omega)]
    exact ih hrest

/-- Canonical buffers with the same bytes are the same buffer. -/
theorem Memory.eq_of_read_eq {m n : Memory} (hm : m.wf = true) (hn : n.wf = true) (h : ∀ a, m.read a = n.read a) :
    m = n := by
  induction m generalizing n with
  | nil =>
    cases n with
    | nil => rfl
    | cons e rest =>
      obtain ⟨b, x⟩ := e
      obtain ⟨-, hx, -, -⟩ := Memory.wf_cons.mp hn
      have := h b
      rw [Memory.read_cons, if_pos rfl, Memory.read_nil] at this
      exact absurd this.symm hx
  | cons e rest ih =>
    obtain ⟨b, x⟩ := e
    obtain ⟨-, hx, hbelow, hrest⟩ := Memory.wf_cons.mp hm
    cases n with
    | nil =>
      have := h b
      rw [Memory.read_cons, if_pos rfl, Memory.read_nil] at this
      exact absurd this hx
    | cons e' rest' =>
      obtain ⟨b', x'⟩ := e'
      obtain ⟨-, hx', hbelow', hrest'⟩ := Memory.wf_cons.mp hn
      have hb : b = b' := by
        rcases Nat.lt_trichotomy b b' with hlt | heq | hgt
        · have := h b
          rw [Memory.read_cons, if_pos rfl, Memory.read_of_below (m := (b', x') :: rest')] at this
          · exact absurd this hx
          · intro c hc
            rcases List.mem_cons.mp hc with rfl | hc
            · exact hlt
            · exact Nat.lt_trans hlt (hbelow' c hc)
        · exact heq
        · have := h b'
          rw [Memory.read_cons b', if_pos rfl, Memory.read_of_below (m := (b, x) :: rest)] at this
          · exact absurd this.symm hx'
          · intro c hc
            rcases List.mem_cons.mp hc with rfl | hc
            · exact hgt
            · exact Nat.lt_trans hgt (hbelow c hc)
      subst hb
      have hxx : x = x' := by
        have := h b
        rwa [Memory.read_cons, if_pos rfl, Memory.read_cons, if_pos rfl] at this
      subst hxx
      congr 1
      refine ih hrest hrest' fun a => ?_
      by_cases ha : b = a
      · subst ha
        rw [Memory.read_of_below hbelow, Memory.read_of_below hbelow']
      · have := h a
        rwa [Memory.read_cons, if_neg ha, Memory.read_cons, if_neg ha] at this

theorem Memory.wf_store1 {m : Memory} (hm : m.wf = true) (a : Nat) (v : Byte) : (m.store1 a v).wf = true :=
  Memory.wf_write hm a v

theorem Memory.wf_store4 {m : Memory} (hm : m.wf = true) (a : Nat) (v : Half) : (m.store4 a v).wf = true :=
  Memory.wf_writeBytes hm a _

theorem Memory.wf_store8 {m : Memory} (hm : m.wf = true) (a : Nat) (v : Word) : (m.store8 a v).wf = true :=
  Memory.wf_writeBytes hm a _

end Sys2Proof.Machine
end

