-- ==== Sys2Proof/Laws/Codec.lean ====
section
/-! SUPPORT. The serializer as one write of 48 bytes, and what the deserializer reads. -/

namespace Sys2Proof.Machine

/-- Writing two runs of bytes in a row is writing their concatenation. -/
theorem Memory.writeBytes_append (m : Memory) (a : Nat) (bs cs : List Byte) :
    m.writeBytes a (bs ++ cs) = (m.writeBytes a bs).writeBytes (a + bs.length) cs := by
  induction bs generalizing m a with
  | nil => rfl
  | cons b bs ih =>
    rw [List.cons_append, Memory.writeBytes, Memory.writeBytes, ih, List.length_cons]
    congr 1
    omega

/-- The 48 bytes of a packet, in wire order. -/
def packetBytes (p : Packet) : List Byte :=
  [p.lvm, p.stratum, p.poll, p.precision] ++ bytes4 p.rootdelay ++ bytes4 p.rootdisp ++ bytes4 p.refid ++
    bytes8 p.refts ++ bytes8 p.orgts ++ bytes8 p.rxts ++ bytes8 p.txts

theorem packetBytes_length (p : Packet) : (packetBytes p).length = 48 := rfl

/-- `pack()` writes the 48 bytes in order, starting at byte 0. -/
theorem pack_eq_writeBytes (p : Packet) (m : Memory) : pack p m = m.writeBytes 0 (packetBytes p) := by
  simp only [packetBytes, Memory.writeBytes_append, List.length_append, List.length_cons, List.length_nil]
  rfl

/-- `pack()` keeps the canonical form. -/
theorem wf_pack {m : Memory} (hm : m.wf = true) (p : Packet) : (pack p m).wf = true := by
  rw [pack_eq_writeBytes]
  exact Memory.wf_writeBytes hm 0 _

/-- After `pack()` byte `i` of BUF is byte `i` of the packet. -/
theorem read_pack {m : Memory} (hm : m.wf = true) (p : Packet) {i : Nat} (hi : i < 48) :
    (pack p m).read i = (packetBytes p)[i]'(by rw [packetBytes_length]; exact hi) := by
  rw [pack_eq_writeBytes]
  have := Memory.read_writeBytes_inside hm 0 (packetBytes p) (by rw [packetBytes_length]; decide)
    (i := i) (by rw [packetBytes_length]; exact hi)
  rwa [Nat.zero_add] at this

/-- `pack()` writes inside BUF only. -/
theorem read_pack_outside (m : Memory) (p : Packet) {i : Nat} (hi : 48 ≤ i) : (pack p m).read i = m.read i := by
  rw [pack_eq_writeBytes]
  exact Memory.read_writeBytes_outside m 0 _ (.inr (by rw [packetBytes_length]; omega))

/-- A 32-bit value is its four bytes. -/
theorem append_bytes4 (v : Half) :
    v.extractLsb' 24 8 ++ v.extractLsb' 16 8 ++ v.extractLsb' 8 8 ++ v.extractLsb' 0 8 = v := by
  rw [BitVec.extractLsb'_append_extractLsb'_eq_extractLsb' (by rfl),
    BitVec.extractLsb'_append_extractLsb'_eq_extractLsb' (by rfl),
    BitVec.extractLsb'_append_extractLsb'_eq_extractLsb' (by rfl)]
  exact BitVec.extractLsb'_eq_self

/-- A 64-bit value is its eight bytes. -/
theorem append_bytes8 (v : Word) :
    v.extractLsb' 56 8 ++ v.extractLsb' 48 8 ++ v.extractLsb' 40 8 ++ v.extractLsb' 32 8 ++ v.extractLsb' 24 8 ++
      v.extractLsb' 16 8 ++ v.extractLsb' 8 8 ++ v.extractLsb' 0 8 = v := by
  rw [BitVec.extractLsb'_append_extractLsb'_eq_extractLsb' (by rfl),
    BitVec.extractLsb'_append_extractLsb'_eq_extractLsb' (by rfl),
    BitVec.extractLsb'_append_extractLsb'_eq_extractLsb' (by rfl),
    BitVec.extractLsb'_append_extractLsb'_eq_extractLsb' (by rfl),
    BitVec.extractLsb'_append_extractLsb'_eq_extractLsb' (by rfl),
    BitVec.extractLsb'_append_extractLsb'_eq_extractLsb' (by rfl),
    BitVec.extractLsb'_append_extractLsb'_eq_extractLsb' (by rfl)]
  exact BitVec.extractLsb'_eq_self

/-- The bytes of the packet's 384-bit string are the bytes `pack()` writes. -/
theorem packetByte_eq (p : Packet) (i : Fin 48) :
    packetByte p i.val = (packetBytes p)[i.val]'(by rw [packetBytes_length]; exact i.isLt) := by
  fin_cases i <;>
    simp (disch := omega) only [packetByte, packetString, packetBytes, bytes4, bytes8, BitVec.extractLsb'_append_eq_of_le,
      BitVec.extractLsb'_append_eq_of_add_le, Nat.reduceMul, Nat.reduceSub, BitVec.extractLsb'_eq_self] <;> rfl

/-- The bytes of a 32-bit access are the four bytes accessed. -/
theorem bytes4_load4 (m : Memory) (a : Nat) :
    bytes4 (m.load4 a) = [m.read a, m.read (a + 1), m.read (a + 2), m.read (a + 3)] := by
  simp (disch := omega) only [bytes4, Memory.load4, BitVec.extractLsb'_append_eq_of_le,
    BitVec.extractLsb'_append_eq_of_add_le, Nat.reduceSub, BitVec.extractLsb'_eq_self]

/-- The bytes of a 64-bit access are the eight bytes accessed. -/
theorem bytes8_load8 (m : Memory) (a : Nat) :
    bytes8 (m.load8 a) = [m.read a, m.read (a + 1), m.read (a + 2), m.read (a + 3), m.read (a + 4), m.read (a + 5),
      m.read (a + 6), m.read (a + 7)] := by
  simp (disch := omega) only [bytes8, Memory.load8, BitVec.extractLsb'_append_eq_of_le,
    BitVec.extractLsb'_append_eq_of_add_le, Nat.reduceSub, BitVec.extractLsb'_eq_self]

/-- `unpack()` takes the 48 bytes of BUF, in order. -/
theorem packetBytes_unpack (m : Memory) : packetBytes (unpack m) = (List.range 48).map m.read := by
  simp only [packetBytes, unpack, bytes4_load4, bytes8_load8, Memory.load1]
  rfl

/-- A 32-bit value is determined by its bytes. -/
theorem eq_of_bytes4_eq {v w : Half} (h : bytes4 v = bytes4 w) : v = w := by
  simp only [bytes4, List.cons.injEq, and_true] at h
  obtain ⟨h3, h2, h1, h0⟩ := h
  rw [← append_bytes4 v, h3, h2, h1, h0, append_bytes4]

/-- A 64-bit value is determined by its bytes. -/
theorem eq_of_bytes8_eq {v w : Word} (h : bytes8 v = bytes8 w) : v = w := by
  simp only [bytes8, List.cons.injEq, and_true] at h
  obtain ⟨h7, h6, h5, h4, h3, h2, h1, h0⟩ := h
  rw [← append_bytes8 v, h7, h6, h5, h4, h3, h2, h1, h0, append_bytes8]

/-- A packet is its 48 bytes. -/
theorem eq_of_packetBytes_eq {p q : Packet} (h : packetBytes p = packetBytes q) : p = q := by
  simp only [packetBytes] at h
  obtain ⟨h, htx⟩ := List.append_inj h rfl
  obtain ⟨h, hrx⟩ := List.append_inj h rfl
  obtain ⟨h, horg⟩ := List.append_inj h rfl
  obtain ⟨h, href⟩ := List.append_inj h rfl
  obtain ⟨h, hid⟩ := List.append_inj h rfl
  obtain ⟨h, hdisp⟩ := List.append_inj h rfl
  obtain ⟨h, hdelay⟩ := List.append_inj h rfl
  simp only [List.cons.injEq, and_true] at h
  cases p
  cases q
  rw [Packet.mk.injEq]
  exact ⟨h.1, h.2.1, h.2.2.1, h.2.2.2, eq_of_bytes4_eq hdelay, eq_of_bytes4_eq hdisp, eq_of_bytes4_eq hid,
    eq_of_bytes8_eq href, eq_of_bytes8_eq horg, eq_of_bytes8_eq hrx, eq_of_bytes8_eq htx⟩

end Sys2Proof.Machine
end

