-- ==== Sys2Proof/Laws/Decode.lean ====
section
/-! SUPPORT. The fields of an encoded word, and the opcode map read in both directions. -/

namespace Sys2Proof

/-- The high byte of a word is its opcode byte. -/
theorem extract_high (a b : BitVec 8) : (a ++ b).extractLsb' 8 8 = a := by
  ext i hi
  rw [BitVec.getElem_extractLsb', BitVec.getLsbD_append, if_neg (by omega), Nat.add_sub_cancel_left]
  exact BitVec.getLsbD_eq_getElem hi

/-- The low byte of a word is its argument byte. -/
theorem extract_low (a b : BitVec 8) : (a ++ b).extractLsb' 0 8 = b := by
  ext i hi
  rw [BitVec.getElem_extractLsb', Nat.zero_add, BitVec.getLsbD_append, if_pos hi]
  exact BitVec.getLsbD_eq_getElem hi

/-- A word is its opcode byte followed by its argument byte. -/
theorem high_append_low (w : CmdWord) : w.extractLsb' 8 8 ++ w.extractLsb' 0 8 = w := by
  rw [BitVec.extractLsb'_append_extractLsb'_eq_extractLsb' (by rfl)]
  exact BitVec.extractLsb'_eq_self

@[simp] theorem encode_high (i : Instr) : (encode i).extractLsb' 8 8 = i.opcode.number := extract_high _ _

@[simp] theorem encode_low (i : Instr) : (encode i).extractLsb' 0 8 = i.arg := extract_low _ _

@[simp] theorem Opcode.ofNumber_number (c : Opcode) : Opcode.ofNumber c.number = some c := by
  cases c <;> rfl

/-- The row an opcode byte selects has that number. -/
theorem Opcode.number_of_ofNumber {op : BitVec 8} {c : Opcode} (h : Opcode.ofNumber op = some c) : c.number = op := by
  have := List.find?_some h
  exact eq_of_beq this

@[simp] theorem TsReg.ofSelector_code (r : TsReg) : TsReg.ofSelector r.code = r := by
  cases r <;> rfl

/-- A selector is the number of the register it names. -/
theorem TsReg.code_ofSelector (s : BitVec 2) : (TsReg.ofSelector s).code = s := by
  revert s
  decide

/-- ABORT's operand names a kind exactly when it is the number of a kind the transport reports. -/
theorem ErrorKind.ofAbortOperand_eq_some (n : BitVec 4) (k : ErrorKind) :
    ErrorKind.ofAbortOperand n = some k ↔ k.code = n ∧ k.reportable = true := by
  cases k <;> revert n <;> decide

/-- The operand a command was given is one its row reserves no bit of. -/
theorem Instr.arg_reserved (i : Instr) : i.arg &&& i.opcode.reserved = 0 := by
  cases i with
  | abort k => cases k <;> rfl
  | ts2i r => cases r <;> rfl
  | setmode m => revert m; decide
  | req v => exact BitVec.and_zero
  | setver v => exact BitVec.and_zero
  | new => rfl
  | sent => rfl
  | reply => rfl
  | clrpkt => rfl
  | pack => rfl
  | unpack => rfl
  | calculate => rfl

/-- Decoding, taken apart: the opcode names a row, the reserved bits are 0, and the row accepts the operand. -/
theorem decode_eq_ok {w : CmdWord} {i : Instr} :
    decode w = .ok i ↔ ∃ c, Opcode.ofNumber (w.extractLsb' 8 8) = some c ∧
      w.extractLsb' 0 8 &&& c.reserved = 0 ∧ c.withOperand (w.extractLsb' 0 8) = .ok i := by
  unfold decode
  split
  · next h => simp [h]
  · next c h =>
    constructor
    · intro e
      split at e
      · next hr => exact ⟨c, h, hr, e⟩
      · cases e
    · rintro ⟨c', hc, hr, e⟩
      cases h.symm.trans hc
      rw [if_pos hr, e]

end Sys2Proof
end

