-- ==== Sys2Proof/Laws/Exec.lean ====
section
/-! SUPPORT. What each command can do, said once: its cases with the condition of each, and the frames of the shared
operations. -/

namespace Sys2Proof.Machine

/-! ## The checks -/

theorem legalVersion_iff (v : Byte) : legalVersion v = true ↔ v = 3 ∨ v = 4 := by
  simp [legalVersion, Config.requestVersions]

theorem legalVersion_eq_false (v : Byte) : legalVersion v = false ↔ v ≠ 3 ∧ v ≠ 4 := by
  rw [← Bool.not_eq_true, legalVersion_iff, not_or]

theorem holdsPacket_iff (s : State) : holdsPacket s = true ↔ s.buflen = 48 := by
  simp [holdsPacket, Config.packetBytes]

theorem holdsPacket_eq_false (s : State) : holdsPacket s = false ↔ s.buflen ≠ 48 := by
  rw [← Bool.not_eq_true, holdsPacket_iff]

/-! ## The cases of the commands that check something -/

theorem execNew_cases (s : State) :
    (accepts .new s.phase = true ∧ execNew s = .next (s.freshInstance.respond .ok)) ∨
      (accepts .new s.phase = false ∧ execNew s = .next s.refuse) := by
  cases h : accepts .new s.phase <;> simp [execNew, h]

theorem execReq_cases (v : BitVec 8) (s : State) :
    (s.phase = .idle ∧ legalVersion v = true ∧
        execReq v s = .next ((((s.setPkt (requestPacket v)).serialize).setPhase .awaitingSend).respond .ok)) ∨
      (s.phase = .idle ∧ legalVersion v = false ∧
        execReq v s = .next (s.takeFailure .invalidVersion (.error .invalidVersion))) ∨
      (s.phase ≠ .idle ∧ execReq v s = .next s.refuse) := by
  cases hp : s.phase <;> cases hv : legalVersion v <;> simp [execReq, accepts, hp, hv]

theorem execSent_cases (s : State) :
    (s.phase = .awaitingSend ∧ execSent s = .next ((s.setPhase .awaitingReply).respond .ok)) ∨
      (s.phase ≠ .awaitingSend ∧ execSent s = .next s.refuse) := by
  cases hp : s.phase <;> simp [execSent, accepts, hp]

theorem execReply_cases (s : State) :
    (s.phase = .awaitingReply ∧ s.buflen = 48 ∧
        execReply s = .next ((s.decodeReply.calc.setPhase .decoded).respond .ok)) ∨
      (s.phase = .awaitingReply ∧ s.buflen ≠ 48 ∧
        execReply s = .next (s.takeFailure .malformedPacket (.error .malformedPacket))) ∨
      (s.phase ≠ .awaitingReply ∧ execReply s = .next s.refuse) := by
  rw [← holdsPacket_eq_false, ← holdsPacket_iff]
  cases hp : s.phase <;> cases hb : holdsPacket s <;> simp [execReply, accepts, hp, hb]

theorem execAbort_cases (k : ErrorKind) (s : State) :
    (k.reportable = true ∧ s.phase.terminal = false ∧ execAbort k s = .next (s.takeFailure k .ok)) ∨
      ((k.reportable = false ∨ s.phase.terminal = true) ∧ execAbort k s = .next s.refuse) := by
  cases hp : s.phase <;> cases hk : k.reportable <;> simp [execAbort, accepts, Phase.terminal, hp, hk]

theorem execSetver_cases (v : BitVec 8) (s : State) :
    (legalVersion v = true ∧ execSetver v s = .next ((s.setLvm (setVersion s.pkt.lvm v)).respond .ok)) ∨
      (legalVersion v = false ∧ execSetver v s = .next (s.raise .invalidVersion)) := by
  cases hv : legalVersion v <;> simp [execSetver, hv]

theorem execUnpack_cases (s : State) :
    (s.buflen = 48 ∧ execUnpack s = .next ((s.setPkt (unpack s.buf)).respond .ok)) ∨
      (s.buflen ≠ 48 ∧ execUnpack s = .next (s.raise .malformedPacket)) := by
  rw [← holdsPacket_eq_false, ← holdsPacket_iff]
  cases hb : holdsPacket s <;> simp [execUnpack, hb]

/-! ## The commands that check nothing -/

theorem execClrpkt_eq (s : State) : execClrpkt s = .next ((s.setPkt Packet.zero).respond .ok) := rfl

theorem execSetmode_eq (m : BitVec 3) (s : State) :
    execSetmode m s = .next ((s.setLvm (setMode s.pkt.lvm m)).respond .ok) := rfl

theorem execPack_eq (s : State) : execPack s = .next (s.serialize.respond .ok) := rfl

theorem execTs2i_eq (r : TsReg) (s : State) :
    execTs2i r s = .next ((s.setTsi (instant (tsValue s.pkt r))).respond .ok) := rfl

theorem execCalc_eq (s : State) : execCalc s = .next (s.calc.respond .ok) := rfl

/-! ## The transactions -/

/-- A pending transaction is taken off the port and served. -/
theorem step_cons {s : State} {x : Transaction} {rest : List Transaction} (h : s.port = x :: rest) :
    step s = serve x (s.setPort rest) := by
  simp [step, serveNext, h]

theorem serveCmd_of_decode {w : CmdWord} {i : Instr} (h : decode w = .ok i) (s : State) : serveCmd w s = exec i s := by
  simp [serveCmd, h]

theorem serveCmd_of_illegal {w : CmdWord} {e : IllegalWord} (h : decode w = .error e) (s : State) :
    serveCmd w s = .next s.refuse := by
  simp [serveCmd, h]

/-- The addresses 0x00 to 0x2F are the bytes of BUF. -/
theorem registerAt_buf {i : Nat} (hi : i < 48) : registerAt (BitVec.ofNat 8 i) = some (.buf ⟨i, hi⟩) := by
  have h : (BitVec.ofNat 8 i).toNat = i := by rw [BitVec.toNat_ofNat]; omega
  simp only [registerAt, h, hi, dif_pos]

/-- A register write keeps the canonical form of BUF. -/
theorem wf_writeRegister {s : State} (h : s.buf.wf = true) (r : RegName) (v : Word) :
    (writeRegister s r v).buf.wf = true := by
  cases r with
  | buf i => exact Memory.wf_write h i.val _
  | _ => exact h

/-- A register write reaches no read-only register, no pending transaction and no returned value. -/
theorem writeRegister_frame (s : State) (r : RegName) (v : Word) :
    (writeRegister s r v).delta = s.delta ∧ (writeRegister s r v).ndelay = s.ndelay ∧
      (writeRegister s r v).offset = s.offset ∧ (writeRegister s r v).tsi = s.tsi ∧
      (writeRegister s r v).phase = s.phase ∧ (writeRegister s r v).err = s.err ∧
      (writeRegister s r v).rsp = s.rsp ∧ (writeRegister s r v).port = s.port ∧
      (writeRegister s r v).portOut = s.portOut := by
  cases r <;> exact ⟨rfl, rfl, rfl, rfl, rfl, rfl, rfl, rfl, rfl⟩

/-- The same for an address, mapped or not. -/
theorem writeAddress_frame (s : State) (a : RegAddr) (v : Word) :
    (writeAddress s a v).delta = s.delta ∧ (writeAddress s a v).ndelay = s.ndelay ∧
      (writeAddress s a v).offset = s.offset ∧ (writeAddress s a v).tsi = s.tsi ∧
      (writeAddress s a v).phase = s.phase ∧ (writeAddress s a v).err = s.err ∧
      (writeAddress s a v).rsp = s.rsp ∧ (writeAddress s a v).port = s.port ∧
      (writeAddress s a v).portOut = s.portOut := by
  unfold writeAddress
  split
  · exact writeRegister_frame s _ v
  · exact ⟨rfl, rfl, rfl, rfl, rfl, rfl, rfl, rfl, rfl⟩

theorem wf_writeAddress {s : State} (h : s.buf.wf = true) (a : RegAddr) (v : Word) :
    (writeAddress s a v).buf.wf = true := by
  unfold writeAddress
  split
  · exact wf_writeRegister h _ v
  · exact h

end Sys2Proof.Machine
end

