-- ==== Sys2Proof/Laws/PerInstr.lean ====
section
/-! SUPPORT. The per-instruction family EncodeMatchesRow: the word of a command lies under its row's match and mask in the
opcode map (30_encoding.md R71). -/

namespace Sys2Proof.Laws.EncodeMatchesRow

/-- The mask column of the opcode map (30_encoding.md R71). -/
def mask : Opcode → CmdWord
  | .new => 0xFFFF
  | .req => 0xFF00
  | .sent => 0xFFFF
  | .reply => 0xFFFF
  | .abort => 0xFFF0
  | .clrpkt => 0xFFFF
  | .setmode => 0xFFF8
  | .setver => 0xFF00
  | .pack => 0xFFFF
  | .unpack => 0xFFFF
  | .ts2i => 0xFFFC
  | .calculate => 0xFFFF

/-- The match column of the opcode map (30_encoding.md R71). -/
def pattern : Opcode → CmdWord
  | .new => 0x0100
  | .req => 0x0200
  | .sent => 0x0300
  | .reply => 0x0400
  | .abort => 0x0500
  | .clrpkt => 0x1000
  | .setmode => 0x1100
  | .setver => 0x1200
  | .pack => 0x1300
  | .unpack => 0x1400
  | .ts2i => 0x2000
  | .calculate => 0x2100

/-- `(w & mask) == match` for the word of the command. -/
def Statement (i : Instr) : Prop := encode i &&& mask i.opcode = pattern i.opcode

/-- A mask of the opcode byte alone leaves the opcode byte alone. -/
theorem high_mask (a b : BitVec 8) : (a ++ b) &&& (0xFF00 : CmdWord) = a ++ 0#8 := by
  have h : (a ++ b) &&& (0xFF#8 ++ 0x00#8) = (a &&& 0xFF#8) ++ (b &&& 0x00#8) := BitVec.and_append
  rw [BitVec.and_zero, show 0xFF#8 = BitVec.allOnes 8 from rfl, BitVec.and_allOnes] at h
  exact h

theorem new : Statement .new := by unfold Statement; decide
theorem req (v : BitVec 8) : Statement (.req v) := high_mask 0x02 v
theorem sent : Statement .sent := by unfold Statement; decide
theorem reply : Statement .reply := by unfold Statement; decide
theorem abort (k : ErrorKind) : Statement (.abort k) := by unfold Statement; cases k <;> decide
theorem clrpkt : Statement .clrpkt := by unfold Statement; decide
theorem setmode (m : BitVec 3) : Statement (.setmode m) := by unfold Statement; revert m; decide
theorem setver (v : BitVec 8) : Statement (.setver v) := high_mask 0x12 v
theorem pack : Statement .pack := by unfold Statement; decide
theorem unpack : Statement .unpack := by unfold Statement; decide
theorem ts2i (s : TsReg) : Statement (.ts2i s) := by unfold Statement; cases s <;> decide
theorem calculate : Statement .calculate := by unfold Statement; decide

end Sys2Proof.Laws.EncodeMatchesRow
end

