-- ==== Sys2Proof/Machine/Script.lean ====
section
/-! DEFINITION. Assembly syntax, host scripts and the source's functions as sequences of transactions (30_encoding.md R80 to
R82), and one whole exchange as the host issues it (70_reset_and_hazards.md R184). -/

namespace Sys2Proof

/-- The mnemonics, in capitals (30_encoding.md R80). -/
def Opcode.mnemonic : Opcode → String
  | .new => "NEW"
  | .req => "REQ"
  | .sent => "SENT"
  | .reply => "REPLY"
  | .abort => "ABORT"
  | .clrpkt => "CLRPKT"
  | .setmode => "SETMODE"
  | .setver => "SETVER"
  | .pack => "PACK"
  | .unpack => "UNPACK"
  | .ts2i => "TS2I"
  | .calculate => "CALC"

/-- The kinds' names with their numbers, the alternative operands of ABORT (30_encoding.md R74, R80). -/
def kindNames : List (String × Nat) :=
  [("InvalidVersion", 1), ("ResolutionFailure", 2), ("ConnectFailure", 3), ("Timeout", 4), ("WriteFailure", 5),
    ("ReadFailure", 6), ("MalformedPacket", 7)]

/-- The timestamp registers' names with their selectors, the alternative operands of TS2I (30_encoding.md R73, R80). -/
def timestampNames : List (String × Nat) :=
  [("REFTS", 0), ("ORGTS", 1), ("RXTS", 2), ("TXTS", 3)]

/-- The mode names with their values, the alternative operands of SETMODE (30_encoding.md R62, R80). -/
def modeNames : List (String × Nat) :=
  [("reserved", 0), ("symmetric-active", 1), ("symmetric-passive", 2), ("client", 3), ("server", 4), ("broadcast", 5),
    ("control", 6), ("reserved-private", 7)]

/-- An operand as it stands after a mnemonic (30_encoding.md R80). -/
inductive AsmOperand where
  | absent
  | numeral (n : Nat)
  | name (s : String)
  deriving DecidableEq, Repr

/-- The names an opcode's operand may have instead of a number (30_encoding.md R80). -/
def Opcode.operandNames : Opcode → List (String × Nat)
  | .abort => kindNames
  | .ts2i => timestampNames
  | .setmode => modeNames
  | .new => []
  | .req => []
  | .sent => []
  | .reply => []
  | .clrpkt => []
  | .setver => []
  | .pack => []
  | .unpack => []
  | .calculate => []

/-- Whether a command is written with an operand (30_encoding.md R71, R80). -/
def Opcode.hasOperand : Opcode → Bool
  | .req => true
  | .abort => true
  | .setmode => true
  | .setver => true
  | .ts2i => true
  | .new => false
  | .sent => false
  | .reply => false
  | .clrpkt => false
  | .pack => false
  | .unpack => false
  | .calculate => false

/-- The operand's number, if the line is written as 30_encoding.md R80 says (other lines assemble to nothing, log 12). -/
def Opcode.operandNumber (c : Opcode) : AsmOperand → Option Nat
  | .absent => if c.hasOperand then none else some 0
  | .numeral n => if c.hasOperand then some n else none
  | .name s => (c.operandNames.find? fun e => e.1 == s).map fun e => e.2

/-- "The word assembled is `(op << 8) | operand`" (30_encoding.md R80), also where the word is then illegal. -/
def assemble (mnemonic : String) (operand : AsmOperand) : Option CmdWord :=
  match Opcode.all.find? fun c => c.mnemonic == mnemonic with
  | none => none
  | some c =>
    match c.operandNumber operand with
    | none => none
    | some n => if n < 256 then some (c.number ++ BitVec.ofNat 8 n) else none

end Sys2Proof

namespace Sys2Proof.Machine

/-- A line of a host script (30_encoding.md R81). -/
inductive ScriptLine where
  /-- `RESET` -/
  | reset
  /-- `WR name, value` -/
  | wr (r : RegName) (v : Word)
  /-- `RD name -> value` -/
  | rd (r : RegName)
  /-- `WRBUF hexbytes` -/
  | wrBuf (bytes : List Byte)
  /-- `RDBUF -> hexbytes` -/
  | rdBuf
  /-- `<command> -> code` -/
  | command (i : Instr)
  deriving DecidableEq, Repr

/-- One register write per byte, "starting at i = 0" (30_encoding.md R81); only the first 48 bytes have a place in BUF
(10_state.md R21). -/
def writeBufFrom : Nat → List Byte → List Transaction
  | _, [] => []
  | i, b :: bs =>
    if i < Config.packetBytes then .regWrite (BitVec.ofNat 8 i) (b.setWidth 64) :: writeBufFrom (i + 1) bs else []

/-- The transactions a script line stands for (30_encoding.md R81). -/
def ScriptLine.transactions : ScriptLine → List Transaction
  | .reset => [.reset]
  | .wr r v => [.regWrite (BitVec.ofNat 8 (regAddress r)) v]
  | .rd r => [.regRead (BitVec.ofNat 8 (regAddress r))]
  | .wrBuf bytes => writeBufFrom 0 bytes
  | .rdBuf => (List.range Config.packetBytes).map fun i => .regRead (BitVec.ofNat 8 i)
  | .command i => [.cmd (encode i)]

/-- A script, "executed top to bottom" (30_encoding.md R81). -/
def script (lines : List ScriptLine) : List Transaction :=
  lines.flatMap ScriptLine.transactions

/-- Writing the eleven Packet registers (30_encoding.md R82). -/
def writePacket (p : Packet) : List ScriptLine :=
  [.wr .lvm (p.lvm.setWidth 64), .wr .stratum (p.stratum.setWidth 64), .wr .poll (p.poll.setWidth 64),
    .wr .precision (p.precision.setWidth 64), .wr .rootdelay (p.rootdelay.setWidth 64),
    .wr .rootdisp (p.rootdisp.setWidth 64), .wr .refid (p.refid.setWidth 64), .wr .refts p.refts, .wr .orgts p.orgts,
    .wr .rxts p.rxts, .wr .txts p.txts]

/-- Writing received bytes and their true number (30_encoding.md R82, 70_reset_and_hazards.md R190). -/
def writeReceived (bytes : List Byte) : List ScriptLine :=
  [.wrBuf bytes, .wr .buflen (BitVec.ofNat 64 bytes.length)]

/-- `encode_request(v)` (30_encoding.md R82). -/
def encodeRequest (v : Byte) : List ScriptLine := [.command (.req v), .rdBuf]

/-- `decode_reply(bytes)` in an exchange (30_encoding.md R82). -/
def decodeReplyInExchange (bytes : List Byte) : List ScriptLine := writeReceived bytes ++ [.command .reply]

/-- `decode_reply(bytes)` outside an exchange, and `decode(bytes)` (30_encoding.md R82). -/
def decodeBytes (bytes : List Byte) : List ScriptLine := writeReceived bytes ++ [.command .unpack]

/-- `encode(p)` (30_encoding.md R82). -/
def encodePacket (p : Packet) : List ScriptLine := writePacket p ++ [.command .pack]

/-- The estimator (30_encoding.md R82). -/
def estimator : List ScriptLine := [.command .calculate]

/-- `query_detailed`, the exchange in which nothing fails (30_encoding.md R82, 70_reset_and_hazards.md R184): the host's clock
readings `sendAt` and `recvAt` and the received bytes are its inputs. -/
def exchange (v : Byte) (sendAt recvAt : Word) (bytes : List Byte) : List ScriptLine :=
  [.command .new] ++ encodeRequest v ++ [.wr .t1 sendAt, .command .sent, .wr .t4 recvAt] ++ decodeReplyInExchange bytes ++
    [.rd .t1, .rd .t2, .rd .offset, .rd .stratum, .rd .err]

end Sys2Proof.Machine
end

