-- ==== Sys2Proof/Tests/Slice0.lean ====
section
/-! SUPPORT. Tests of the model against values written out in the spec (the source of each stands in its comment), and for
every obligation with hypotheses a named witness that meets them. -/

namespace Sys2Proof.Tests

open Sys2Proof.Machine

/-! ## Helpers -/

/-- What a result's next state shows through `f`. -/
def shows {α : Type} (r : Result) (f : State → α) : Option α :=
  match r with
  | .next t => some (f t)
  | .fault _ => none
  | .refused _ => none

/-- One step that serves the command word `w`. -/
def cmd (w : CmdWord) (s : State) : Result := step (s.issueCmd w)

/-- The reset state in another phase. -/
def inPhase (p : Phase) : State := { State.reset with phase := p }

/-- A failed exchange with its cause. -/
def failedBy (k : ErrorKind) : State := { State.reset with phase := .failed, err := some k }

/-- The reset state with four instants. -/
def instants (a b c d : Word) : State := { State.reset with t1 := a, t2 := b, t3 := c, t4 := d }

/-- The reset state with one transaction pending. -/
def pending (x : Transaction) : State := { State.reset with port := [x] }

/-! ## WellFormed: the one operand check refuses what the spec refuses (30_encoding.md R75 step 3, R76) -/

theorem test_wf_refuses_abort_1 : (Instr.abort .invalidVersion).wellFormed = false := by decide
theorem test_wf_refuses_abort_7 : (Instr.abort .malformedPacket).wellFormed = false := by decide
theorem test_wf_takes_abort_2 : (Instr.abort .resolutionFailure).wellFormed = true := by decide
theorem test_wf_takes_req_5 : (Instr.req 5).wellFormed = true := by decide

/-! ## Decoding: words written out bit by bit from 30_encoding.md R71 (opcode byte, argument byte) -/

theorem test_decode_new : decode 0b00000001_00000000 = .ok .new := by decide
theorem test_decode_req : decode 0b00000010_10000101 = .ok (.req 133) := by decide
theorem test_decode_sent : decode 0b00000011_00000000 = .ok .sent := by decide
theorem test_decode_reply : decode 0b00000100_00000000 = .ok .reply := by decide
theorem test_decode_abort : decode 0b00000101_00000101 = .ok (.abort .writeFailure) := by decide
theorem test_decode_clrpkt : decode 0b00010000_00000000 = .ok .clrpkt := by decide
theorem test_decode_setmode : decode 0b00010001_00000110 = .ok (.setmode 6) := by decide
theorem test_decode_setver : decode 0b00010010_00000100 = .ok (.setver 4) := by decide
theorem test_decode_pack : decode 0b00010011_00000000 = .ok .pack := by decide
theorem test_decode_unpack : decode 0b00010100_00000000 = .ok .unpack := by decide
theorem test_decode_ts2i : decode 0b00100000_00000010 = .ok (.ts2i .rxts) := by decide
theorem test_decode_calculate : decode 0b00100001_00000000 = .ok .calculate := by decide

/-- The illegal words of 95_test_vectors.md 2.2, each named by its reason. -/
theorem test_decode_illegal :
    [0x0000, 0x0600, 0x1500, 0x2200, 0xFFFF].map decode = List.replicate 5 (.error .unassignedOpcode) ∧
      [0x0101, 0x0301, 0x0480, 0x0514, 0x1001, 0x1108, 0x1301, 0x1401, 0x2004, 0x2101].map decode
        = List.replicate 10 (.error .reservedBits) ∧
      [0x0500, 0x0501, 0x0507, 0x0508, 0x050F].map decode = List.replicate 5 (.error .abortKind) := by decide

/-- The words of 95_test_vectors.md 2.2's assembly list, from the encoder. -/
theorem test_encode :
    [Instr.new, .req 4, .sent, .reply, .abort .timeout, .clrpkt, .setmode 7, .setver 4, .pack, .unpack, .ts2i .txts,
      .calculate].map encode
      = [0x0100, 0x0204, 0x0300, 0x0400, 0x0504, 0x1000, 0x1107, 0x1204, 0x1300, 0x1400, 0x2003, 0x2100] := by decide

/-- The host's view: 16 bits, and the next step runs the word placed. -/
theorem test_decodeTableWord : decodeTableWord 16 0x1103 = some (.setmode 3) ∧ decodeTableWord 16 0x0507 = none := by decide
theorem test_withFetchWord : shows (step (State.reset.withFetchWord 16 0x1103)) (fun t => (t.pkt.lvm, t.port)) =
    some (0x03, []) := by decide

/-! ## The commands -/

/-- 44_exchange.md R131, example. -/
theorem test_new_clears : shows (cmd 0x0100 { failedBy .malformedPacket with buflen := 40 })
    (fun t => (t.phase, t.err, t.buflen, t.rsp)) = some (.idle, none, 0, .ok) := by decide
/-- 95_test_vectors.md X1: NEW in AwaitingSend. -/
theorem test_new_refused : shows (cmd 0x0100 (inPhase .awaitingSend)) (fun t => (t.phase, t.portOut)) =
    some (.awaitingSend, .code .refused) := by decide
/-- 30_encoding.md R69, the image of a version-4 request. -/
theorem test_req_4 : shows (cmd 0x0204 State.reset) (fun t => (t.buf, t.buflen, t.pkt.lvm, t.phase)) =
    some ([(0, 0x23)], 48, 0x23, .awaitingSend) := by decide +kernel
/-- 95_test_vectors.md X3: REQ 5 in Idle. -/
theorem test_req_5 : shows (cmd 0x0205 State.reset) (fun t => (t.rsp, t.phase, t.err, t.buflen)) =
    some (.error .invalidVersion, .failed, some .invalidVersion, 0) := by decide
/-- 95_test_vectors.md X4. -/
theorem test_sent : shows (cmd 0x0300 (inPhase .awaitingSend)) (fun t => (t.rsp, t.phase)) =
    some (.ok, .awaitingReply) := by decide
/-- 95_test_vectors.md K4: a reply of stratum 0 with zero timestamps is decoded, not rejected. -/
theorem test_reply_stratum_0 : shows
    (cmd 0x0400 { inPhase .awaitingReply with
      t1 := 1000, t4 := 3000, buflen := 48, buf := [(0, 0xE4), (12, 0x52), (13, 0x41), (14, 0x54), (15, 0x45)] })
    (fun t => (t.phase, t.pkt.refid, t.t2, t.delta, t.ndelay, t.offset.toInt)) =
    some (.decoded, 0x52415445, 0, 2000, 1000, -2000) := by decide +kernel
/-- 95_test_vectors.md S11: 40 bytes. -/
theorem test_reply_short : shows (cmd 0x0400 { inPhase .awaitingReply with buflen := 40, buf := [(0, 0x24)] })
    (fun t => (t.rsp, t.phase, t.err, t.pkt)) =
    some (.error .malformedPacket, .failed, some .malformedPacket, Packet.zero) := by decide
/-- 95_test_vectors.md X6. -/
theorem test_abort : shows (cmd 0x0504 (inPhase .awaitingReply)) (fun t => (t.rsp, t.phase, t.err)) =
    some (.ok, .failed, some .timeout) := by decide
/-- 95_test_vectors.md X6, Failed: the first cause is kept. -/
theorem test_abort_failed : shows (cmd 0x0506 (failedBy .timeout)) (fun t => (t.rsp, t.err)) =
    some (.refused, some .timeout) := by decide
/-- 95_test_vectors.md H33. -/
theorem test_clrpkt : shows (cmd 0x1000 { State.reset with
      pkt := { Packet.zero with lvm := 0xE3, stratum := 2, txts := 0xFFFFFFFFFFFFFFFF }, buf := [(0, 0x23)], t1 := 5 })
    (fun t => (t.pkt, t.buf, t.t1)) = some (Packet.zero, [(0, 0x23)], 5) := by decide
/-- 95_test_vectors.md H2. -/
theorem test_setmode : shows (cmd 0x1103 { State.reset with pkt := { Packet.zero with lvm := 0xFF } })
    (fun t => t.pkt.lvm) = some 0xFB := by decide
/-- 95_test_vectors.md H17. -/
theorem test_setver : shows (cmd 0x1204 { State.reset with pkt := { Packet.zero with lvm := 0xFB } })
    (fun t => t.pkt.lvm) = some 0xE3 := by decide
/-- 95_test_vectors.md H30: the whole 8-bit operand is tested. -/
theorem test_setver_11 : shows (cmd 0x120B { State.reset with pkt := { Packet.zero with lvm := 0xFB } })
    (fun t => (t.rsp, t.pkt.lvm, t.phase)) = some (.error .invalidVersion, 0xFB, .idle) := by decide
/-- 95_test_vectors.md K1, four of its fields: the most significant byte at the lowest address. -/
theorem test_pack : shows (cmd 0x1300 { State.reset with
      pkt := { Packet.zero with lvm := 0xDC, rootdelay := 0x00010203, refid := 0x47505300, refts := 0x0102030405060708 } })
    (fun t => (t.buf, t.buflen)) =
    some ([(0, 0xDC), (5, 1), (6, 2), (7, 3), (12, 0x47), (13, 0x50), (14, 0x53), (16, 1), (17, 2), (18, 3), (19, 4), (20, 5),
      (21, 6), (22, 7), (23, 8)], 48) := by decide +kernel
/-- 95_test_vectors.md K2, five of its fields. -/
theorem test_unpack : shows (cmd 0x1400 { State.reset with
      buflen := 48, buf := [(0, 0x24), (3, 0xE9), (6, 0x0A), (7, 0x3D), (40, 0xEE), (41, 0x9A), (42, 0xE2), (43, 0xC0),
        (44, 0x5C), (45, 0xAF), (46, 0x4F), (47, 0x0E)] })
    (fun t => (t.pkt.lvm, t.pkt.precision, t.pkt.rootdelay, t.pkt.rxts, t.pkt.txts)) =
    some (0x24, 0xE9, 0x00000A3D, 0, 0xEE9AE2C05CAF4F0E) := by decide +kernel
/-- 95_test_vectors.md D6: 49 is not 48. -/
theorem test_unpack_49 : shows (cmd 0x1400 { State.reset with buflen := 49, buf := [(0, 0x24)] })
    (fun t => (t.rsp, t.pkt.lvm, t.phase)) = some (.error .malformedPacket, 0, .idle) := by decide
/-- 95_test_vectors.md T15: INSTANT_MAX. -/
theorem test_ts2i_max : shows (cmd 0x2003 { State.reset with pkt := { Packet.zero with txts := 0xFFFFFFFFFFFFFFFF } })
    (fun t => t.tsi) = some 4294967295999999999 := by decide +kernel
/-- 95_test_vectors.md T18: a fraction that is truncated. -/
theorem test_ts2i_truncates : shows (cmd 0x2002 { State.reset with pkt := { Packet.zero with rxts := 0xEE9AE2C05CAC0832 } })
    (fun t => t.tsi) = some 4003128000362000000 := by decide +kernel
/-- 95_test_vectors.md O8: an odd negative delay rounds toward zero. -/
theorem test_calc_odd_negative : shows (cmd 0x2100 (instants 0 0 7 0)) (fun t => (t.delta, t.ndelay, t.offset)) =
    some (0xFFFFFFFFFFFFFFF9, 0xFFFFFFFFFFFFFFFD, 3) := by decide +kernel
/-- 95_test_vectors.md O18: the smallest in-range delay. -/
theorem test_calc_min : shows (cmd 0x2100 (instants 4294967295999999999 0 4294967295999999999 0))
    (fun t => (t.delta, t.ndelay, t.offset)) = some (0x88CA6C0000000002, 0xC465360000000001, 0) := by decide +kernel

/-! ## Refusals and register transactions -/

/-- 95_test_vectors.md X3: phase acceptance comes before the version check. -/
theorem test_req_5_refused : shows (cmd 0x0205 (inPhase .decoded)) (fun t => (t.rsp, t.phase, t.err)) =
    some (.refused, .decoded, none) := by decide
/-- 95_test_vectors.md E9. -/
theorem test_illegal_word : shows (cmd 0x0507 (inPhase .awaitingReply)) (fun t => (t.rsp, t.phase, t.portOut)) =
    some (.refused, .awaitingReply, .code .refused) := by decide
/-- 95_test_vectors.md D9 and D10: the low 16 bits are kept. -/
theorem test_write_buflen : shows (step (pending (.regWrite 0x30 65536))) (fun t => t.buflen) = some 0 ∧
    shows (step (pending (.regWrite 0x30 65584))) (fun t => t.buflen) = some 48 := by decide
/-- 95_test_vectors.md X11: read-only registers. -/
theorem test_write_read_only : shows (step (pending (.regWrite 0x54 5))) (fun t => t.delta) = some 0 ∧
    shows (step (pending (.regWrite 0x60 3))) (fun t => t.phase) = some .idle := by decide
/-- 95_test_vectors.md X11: an unmapped address, and zero extension. -/
theorem test_read : shows (step (pending (.regRead 0x31))) (fun t => t.portOut) = some (.data 0) ∧
    shows (step { pending (.regRead 0x42) with pkt := { Packet.zero with poll := 0xFA } }) (fun t => t.portOut) =
      some (.data 0xFA) := by decide
/-- 30_encoding.md R80, examples: `ABORT 4` and `ABORT Timeout` are 0x0504, `TS2I RXTS` is 0x2002. -/
theorem test_assemble : assemble "ABORT" (.numeral 4) = some 0x0504 ∧ assemble "ABORT" (.name "Timeout") = some 0x0504 ∧
    assemble "TS2I" (.name "RXTS") = some 0x2002 ∧ assemble "SETMODE" (.name "client") = some 0x1103 ∧
    assemble "PACK" .absent = some 0x1300 ∧ assemble "REQ" .absent = none := by decide +kernel

/-! ## Witnesses of the statements' hypotheses -/

theorem witness_DecodeInvertsEncode :
    (Instr.abort .readFailure).wellFormed = true ∧ (Instr.req 255).wellFormed = true ∧ (Instr.setmode 7).wellFormed = true := by
  decide
theorem witness_EncodeInvertsDecode : decode 0x0506 = .ok (.abort .readFailure) ∧ decode 0x02FF = .ok (.req 255) := by decide
/-- Each item of the list of illegal words is met at the edge of its range, and a neighbour inside the range is legal. -/
theorem witness_IllegalWordsAreRefused :
    (IsIllegal 0x0000 ∧ IsIllegal 0x2200) ∧ (IsIllegal 0x0101 ∧ IsIllegal 0x21FF) ∧ IsIllegal 0x1108 ∧ IsIllegal 0x2004 ∧
      (IsIllegal 0x0510 ∧ IsIllegal 0x0501 ∧ IsIllegal 0x0507) ∧
      ¬ IsIllegal 0x0502 ∧ ¬ IsIllegal 0x0506 ∧ ¬ IsIllegal 0x1107 ∧ ¬ IsIllegal 0x2003 ∧ ¬ IsIllegal 0x12FF ∧
      (pending (.cmd 0x0000)).port = [.cmd 0x0000] := by
  refine ⟨⟨?_, ?_⟩, ⟨?_, ?_⟩, ?_, ?_, ⟨?_, ?_, ?_⟩, ?_, ?_, ?_, ?_, ?_, rfl⟩ <;> (unfold IsIllegal; dsimp only; decide)
/-- A legal command in a phase that does not accept it. -/
theorem witness_IllegalWordsAreRefused_phase : decode 0x0300 = .ok .sent ∧ accepts .sent State.reset.phase = false := by decide
theorem witness_StepRunsDecodedCommand :
    (pending (.cmd 0x1300)).port = [.cmd 0x1300] ∧ decode 0x1300 = .ok .pack ∧ decodeTableWord 16 0x2100 = some .calculate ∧
      0x2100 < 2 ^ 16 := by decide
theorem witness_EmptyPortHoldsState : State.reset.port = [] := by decide
/-- The edges of the map: the last and first addresses of its mapped and unmapped ranges. -/
theorem witness_RegReadReturnsMappedRegister :
    (pending (.regRead 0x30)).port = [.regRead 0x30] ∧ registerAt 0x2F = some (.buf 47) ∧ registerAt 0x30 = some .buflen ∧
      registerAt 0x31 = none ∧ registerAt 0x3F = none ∧ registerAt 0x40 = some .lvm ∧ registerAt 0x4A = some .txts ∧
      registerAt 0x4B = none ∧ registerAt 0x4F = none ∧ registerAt 0x50 = some .t1 ∧ registerAt 0x57 = some .tsi ∧
      registerAt 0x58 = none ∧ registerAt 0x5F = none ∧ registerAt 0x60 = some .phase ∧ registerAt 0x62 = some .rsp ∧
      registerAt 0x63 = none ∧ registerAt 0xFF = none := by decide
theorem witness_RegWriteWritesOnlyItsRegister : State.reset.buf.wf = true ∧ 0 < 48 ∧ 47 < 48 := by decide
/-- A writable and a read-only address. -/
theorem witness_ReadBackAfterWrite : State.reset.buf.wf = true ∧ registerAt 0x40 = some .lvm ∧ hostWritable .lvm = true ∧
    registerAt 0x54 = some .delta ∧ hostWritable .delta = false ∧
    ({ State.reset with port := [.regWrite 0x40 511, .regRead 0x40] } : State).port = [.regWrite 0x40 511, .regRead 0x40] := by
  decide
theorem witness_ResetTransactionZeroesEveryRegister :
    (pending .reset).port = [.reset] ∧ accepts .new State.reset.phase = true ∧
      ∃ t, step { inPhase .awaitingSend with port := [.reset] } = .next t ∧
        (inPhase .awaitingSend).phase = .awaitingSend ∧ t.phase ≠ (inPhase .awaitingSend).phase :=
  ⟨rfl, rfl, _, rfl, rfl, by decide⟩
/-- Every phase a statement about an exchange command names is some state's (R131 to R135, R130). -/
theorem witness_phases : ∀ p : Phase, (inPhase p).phase = p := by intro p; cases p <;> decide
theorem witness_ReqBuildsRequestImage : State.reset.phase = .idle ∧ State.reset.buf.wf = true ∧ (3 : Byte) ≠ 4 ∧
    (5 : BitVec 8) ≠ 3 ∧ (5 : BitVec 8) ≠ 4 := by decide
theorem witness_ReqEqualsPrimitiveSequence : (inPhase .idle).phase = .idle ∧ ((4 : BitVec 8) = 3 ∨ (4 : BitVec 8) = 4) := by
  decide
theorem witness_ReplyDecodesAndEstimates :
    ({ inPhase .awaitingReply with buflen := 48 } : State).buflen = 48 ∧
      ({ inPhase .awaitingReply with buflen := 47 } : State).buflen ≠ 48 ∧
      ({ inPhase .awaitingReply with buflen := 48 } : State).phase = .awaitingReply := by decide
theorem witness_AbortRecordsTransportFailure :
    ErrorKind.resolutionFailure ≠ .invalidVersion ∧ ErrorKind.readFailure ≠ .malformedPacket := by decide
theorem witness_PackSerializesBigEndian : ({ State.reset with buf := [(0, 1), (47, 255)] } : State).buf.wf = true := by decide
theorem witness_UnpackDeserializesOrRejects :
    ({ State.reset with buflen := 48 } : State).buflen = 48 ∧ State.reset.buflen ≠ 48 := by decide
theorem witness_CodecRoundTrips :
    ({ State.reset with buflen := 48, buf := [(5, 7)] } : State).buf.wf = true ∧
      ({ State.reset with buflen := 48, buf := [(5, 7)] } : State).buflen = 48 := by decide
/-- Two states with one Packet and different buffers. -/
theorem witness_PackedBytesIgnoreOldBuffer :
    ({ State.reset with buf := [(5, 7)] } : State).buf.wf = true ∧ State.reset.buf.wf = true ∧
      ({ State.reset with buf := [(5, 7)] } : State).pkt = State.reset.pkt ∧
      ({ State.reset with buf := [(5, 7)] } : State).buf ≠ State.reset.buf := by decide
/-- Two states with the same 48 bytes and different Packets. -/
theorem witness_UnpackedPacketHasNoStaleField :
    let s : State := { State.reset with buflen := 48 }
    let s' : State := { State.reset with buflen := 48, pkt := { Packet.zero with lvm := 0xFF } }
    s.buflen = 48 ∧ s'.buflen = 48 ∧ (∀ i, i < 48 → s.buf.read i = s'.buf.read i) ∧ s.pkt ≠ s'.pkt :=
  ⟨rfl, rfl, fun _ _ => rfl, by decide⟩
theorem witness_InstantTruncatesAndIsMonotone : (0x0FFFFFFFF : Word).toNat ≤ (0x100000000 : Word).toNat := by decide
/-- The edges of the range: the largest and the smallest delay and offset (95_test_vectors.md O15 to O18). -/
theorem witness_CalcIsExactInRange :
    InstantsInRange (instants 0 4294967295999999999 4294967295999999999 0) ∧
      InstantsInRange (instants 4294967295999999999 0 0 4294967295999999999) ∧
      InstantsInRange (instants 0 4294967295999999999 0 4294967295999999999) ∧
      InstantsInRange (instants 4294967295999999999 0 4294967295999999999 0) := by
  unfold InstantsInRange InRange
  decide
/-- One-way latency 100, server 600 behind: offset -600. -/
theorem witness_OffsetIsServerLead :
    InstantsInRange (instants 1000 500 600 1300) ∧
      (instants 1000 500 600 1300).t2.toInt = (instants 1000 500 600 1300).t1.toInt + 100 + (-600) ∧
      (instants 1000 500 600 1300).t4.toInt = (instants 1000 500 600 1300).t3.toInt + 100 - (-600) := by
  unfold InstantsInRange InRange
  decide
/-- An even and an odd delay. -/
theorem witness_OneSidedFormAgainstSymmetricForm :
    InstantsInRange (instants 0 10 10 0) ∧ (calcDelta (instants 0 10 10 0)).toInt % 2 = 0 ∧
      InstantsInRange (instants 0 1 0 0) ∧ (calcDelta (instants 0 1 0 0)).toInt % 2 = 1 := by
  unfold InstantsInRange InRange
  decide
theorem witness_EveryCommandFollowsTransitionTable : (Instr.abort .connectFailure).wellFormed = true := by decide
/-- An illegal word, a refused command and an error, each answering something other than OK. -/
theorem witness_ErrorsWriteOnlyStatus :
    shows (step (pending (.cmd 0x0000))) (fun t => decide (t.rsp ≠ .ok)) = some true ∧
      shows (step (pending (.cmd 0x0300))) (fun t => decide (t.rsp ≠ .ok)) = some true ∧
      shows (step (pending (.cmd 0x1209))) (fun t => decide (t.rsp ≠ .ok)) = some true := by decide
theorem witness_FirstFailedCheckDecidesResponse :
    (pending (.cmd 0x0205)).port = [.cmd 0x0205] ∧ decode 0x0205 = .ok (.req 5) ∧ accepts (.req 5) .idle = true ∧
      accepts (.req 5) .decoded = false := by decide
theorem witness_PrimitivesIgnoreExchangeState : isExchange (.setver 9) = false ∧ isExchange .calculate = false := by decide
theorem witness_DecodedOnlyThroughReply :
    ∃ t, step { inPhase .awaitingReply with buflen := 48, port := [.cmd 0x0400] } = .next t ∧ t.phase = .decoded :=
  ⟨_, rfl, rfl⟩
theorem witness_TerminalPhaseEndsOnlyAfresh :
    ∃ t, step { failedBy .timeout with port := [.cmd 0x0100] } = .next t ∧ (failedBy .timeout).phase.terminal = true ∧
      t.phase ≠ (failedBy .timeout).phase :=
  ⟨_, rfl, rfl, by decide⟩
theorem inv_of_failedBy (k : ErrorKind) : (failedBy k).Inv where
  bufCanonical := rfl
  errIffFailed := by simp [failedBy]
  ndelayIsHalf := by simp [failedBy, sdiv2]
  tsiInRange := by simp [failedBy]
  rspReported := rfl
  codeIsRsp := by simp [failedBy]
theorem inv_of_withPort {s : State} (h : s.Inv) (q : List Transaction) : State.Inv { s with port := q } :=
  ⟨h.bufCanonical, h.errIffFailed, h.ndelayIsHalf, h.tsiInRange, h.rspReported, h.codeIsRsp⟩
/-- Two pending commands, neither of them NEW nor a Reset. -/
theorem witness_FirstErrorKeptUntilFreshStart :
    let s : State := { failedBy .timeout with port := [.cmd 0x0204, .cmd 0x0502] }
    s.Inv ∧ s.err = some .timeout ∧ ∀ x ∈ s.port.take 2, x ≠ .reset ∧ x ≠ .cmd 0x0100 :=
  ⟨inv_of_withPort (inv_of_failedBy .timeout) _, rfl, by decide⟩
/-- A step that lowers the rank, by Reset and by NEW. -/
theorem witness_ExchangeNeverMovesBackward :
    (∃ t, step { inPhase .awaitingReply with port := [.reset] } = .next t ∧ t.phase.rank < Phase.awaitingReply.rank) ∧
      ∃ t, step { inPhase .decoded with port := [.cmd 0x0100] } = .next t ∧ t.phase.rank < Phase.decoded.rank :=
  ⟨⟨_, rfl, by decide⟩, _, rfl, by decide⟩
theorem witness_NewEqualsReset : State.reset.phase ≠ .awaitingSend ∧ State.reset.phase ≠ .awaitingReply ∧
    (inPhase .awaitingSend).phase = .awaitingSend := by decide
/-- A failure by the block's own check and one reported by the transport. -/
theorem witness_FailureEntryWritesKindAndPhaseOnly :
    (∃ t, step (pending (.cmd 0x0205)) = .next t ∧ t.phase = .failed ∧ (pending (.cmd 0x0205)).phase ≠ .failed) ∧
      ∃ t, step (pending (.cmd 0x0503)) = .next t ∧ t.phase = .failed ∧ (pending (.cmd 0x0503)).phase ≠ .failed :=
  ⟨⟨_, rfl, rfl, by decide⟩, _, rfl, rfl, by decide⟩
theorem witness_PendingTransactionsHaveNoInfluence :
    (pending (.cmd 0x1107)).port = [.cmd 0x1107] ∧ ∃ t, step (pending (.cmd 0x1107)) = .next t :=
  ⟨rfl, _, rfl⟩
theorem inv_of_awaitingReply (n : BitVec 16) : State.Inv { inPhase .awaitingReply with buflen := n } where
  bufCanonical := rfl
  errIffFailed := by simp [inPhase]
  ndelayIsHalf := by simp [inPhase, sdiv2]
  tsiInRange := by simp [inPhase]
  rspReported := rfl
  codeIsRsp := by simp [inPhase]
theorem witness_ReplyEndsTheRun :
    (State.Inv { inPhase .awaitingReply with buflen := 48 } ∧ State.Inv { inPhase .awaitingReply with buflen := 40 }) ∧
      (inPhase .awaitingReply).phase = .awaitingReply :=
  ⟨⟨inv_of_awaitingReply 48, inv_of_awaitingReply 40⟩, rfl⟩
theorem witness_StepKeepsInvariant : (failedBy .timeout).Inv ∧ ∃ t, step (failedBy .timeout) = .next t :=
  ⟨inv_of_failedBy .timeout, _, rfl⟩

end Sys2Proof.Tests
end

section
/-! PROOFS. What every step keeps, and how REPLY ends a run (10_state.md R23, R26 to R28, 44_exchange.md R140). -/

namespace Sys2Proof.Machine

/-! ## What each named update needs to keep the invariant -/

theorem State.Inv.setPort {s : State} (h : s.Inv) (q : List Transaction) : (s.setPort q).Inv := { h with }

theorem State.Inv.setPkt {s : State} (h : s.Inv) (p : Packet) : (s.setPkt p).Inv := { h with }

theorem State.Inv.setLvm {s : State} (h : s.Inv) (b : Byte) : (s.setLvm b).Inv := { h with }

theorem State.Inv.setT2 {s : State} (h : s.Inv) (v : Word) : (s.setT2 v).Inv := { h with }

theorem State.Inv.setT3 {s : State} (h : s.Inv) (v : Word) : (s.setT3 v).Inv := { h with }

theorem State.Inv.setBuffer {s : State} (h : s.Inv) {m : Memory} (hm : m.wf = true) (n : BitVec 16) :
    (s.setBuffer m n).Inv :=
  { h with bufCanonical := hm }

theorem State.Inv.setTsi {s : State} (h : s.Inv) {v : Word} (hv : v.toNat ≤ Config.instantMax) : (s.setTsi v).Inv :=
  { h with tsiInRange := hv }

/-- The phase moves freely while neither the old nor the new one is Failed: ERR stays empty (10_state.md R26). -/
theorem State.Inv.setPhase {s : State} (h : s.Inv) {p : Phase} (hs : s.phase ≠ .failed) (hp : p ≠ .failed) :
    (s.setPhase p).Inv :=
  { h with errIffFailed := iff_of_false (mt h.errIffFailed.mp hs) hp }

/-- Only a response code is tied to RSP (10_state.md R27): what the other transactions return is free. -/
theorem State.Inv.setPortOut {s : State} (h : s.Inv) {o : PortOut} (ho : ∀ r, o ≠ .code r) : (s.setPortOut o).Inv :=
  { h with codeIsRsp := fun r e => absurd e (ho r) }

theorem State.Inv.respond {s : State} (h : s.Inv) {r : Response} (hr : reportedByCommand r = true) :
    (s.respond r).Inv :=
  { h with rspReported := hr, codeIsRsp := fun _ e => PortOut.code.inj e }

theorem State.Inv.calc {s : State} (h : s.Inv) : s.calc.Inv := { h with ndelayIsHalf := rfl }

/-! ## The shared operations, from their updates -/

theorem State.Inv.serialize {s : State} (h : s.Inv) : s.serialize.Inv :=
  h.setBuffer (wf_pack h.bufCanonical s.pkt) _

theorem State.Inv.decodeReply {s : State} (h : s.Inv) : s.decodeReply.Inv :=
  ((h.setPkt _).setT2 _).setT3 _

theorem State.Inv.refuse {s : State} (h : s.Inv) : s.refuse.Inv := h.respond rfl

theorem State.Inv.raise {s : State} (h : s.Inv) {k : ErrorKind} (hk : reportedByCommand (.error k) = true) :
    (s.raise k).Inv :=
  h.respond hk

/-- A failure enters Failed and records its kind at once, so ERR and PHASE still agree (60_exceptions.md R161). -/
theorem State.Inv.takeFailure {s : State} (h : s.Inv) (k : ErrorKind) {r : Response}
    (hr : reportedByCommand r = true) : (s.takeFailure k r).Inv where
  bufCanonical := h.bufCanonical
  errIffFailed := by simp
  ndelayIsHalf := h.ndelayIsHalf
  tsiInRange := h.tsiInRange
  rspReported := hr
  codeIsRsp := fun _ e => PortOut.code.inj e

/-- Settles O48: every register is zero, and half of zero is zero. -/
theorem resetSatisfiesInvariant : Obligations.ResetSatisfiesInvariant where
  bufCanonical := Memory.wf_nil
  errIffFailed := by simp
  ndelayIsHalf := by simp [sdiv2]
  tsiInRange := Nat.zero_le _
  rspReported := rfl
  codeIsRsp := nofun

/-- The state an accepted NEW leaves. -/
theorem inv_freshInstance_respond (s : State) : (s.freshInstance.respond .ok).Inv :=
  (State.Inv.setPort resetSatisfiesInvariant s.port).respond rfl

/-- The state a Reset leaves. -/
theorem inv_freshInstance_setPortOut (s : State) : (s.freshInstance.setPortOut .nothing).Inv :=
  (State.Inv.setPort resetSatisfiesInvariant s.port).setPortOut nofun

/-- The host's writes reach BUF, which stays canonical, and none of the other registers the invariant speaks of. -/
theorem State.Inv.writeAddress {s : State} (h : s.Inv) (a : RegAddr) (v : Word) : (writeAddress s a v).Inv := by
  obtain ⟨hdelta, hndelay, -, htsi, hphase, herr, hrsp, -, hout⟩ := writeAddress_frame s a v
  exact {
    bufCanonical := wf_writeAddress h.bufCanonical a v
    errIffFailed := by rw [herr, hphase]; exact h.errIffFailed
    ndelayIsHalf := by rw [hndelay, hdelta]; exact h.ndelayIsHalf
    tsiInRange := by rw [htsi]; exact h.tsiInRange
    rspReported := by rw [hrsp]; exact h.rspReported
    codeIsRsp := by rw [hout, hrsp]; exact h.codeIsRsp }

/-! ## Every command and every transaction keeps the invariant -/

theorem execNew_keeps_inv {s : State} (h : s.Inv) : ∃ t, execNew s = .next t ∧ t.Inv := by
  obtain ⟨-, e⟩ | ⟨-, e⟩ := execNew_cases s
  · exact ⟨_, e, inv_freshInstance_respond s⟩
  · exact ⟨_, e, h.refuse⟩

theorem execReq_keeps_inv {s : State} (h : s.Inv) (v : BitVec 8) : ∃ t, execReq v s = .next t ∧ t.Inv := by
  obtain ⟨hidle, -, e⟩ | ⟨-, -, e⟩ | ⟨-, e⟩ := execReq_cases v s
  · have hserialized := (h.setPkt (requestPacket v)).serialize
    exact ⟨_, e, (hserialized.setPhase (by simp [hidle]) (by decide)).respond rfl⟩
  · exact ⟨_, e, h.takeFailure _ rfl⟩
  · exact ⟨_, e, h.refuse⟩

theorem execSent_keeps_inv {s : State} (h : s.Inv) : ∃ t, execSent s = .next t ∧ t.Inv := by
  obtain ⟨hphase, e⟩ | ⟨-, e⟩ := execSent_cases s
  · exact ⟨_, e, (h.setPhase (by simp [hphase]) (by decide)).respond rfl⟩
  · exact ⟨_, e, h.refuse⟩

theorem execReply_keeps_inv {s : State} (h : s.Inv) : ∃ t, execReply s = .next t ∧ t.Inv := by
  obtain ⟨hphase, -, e⟩ | ⟨-, -, e⟩ | ⟨-, e⟩ := execReply_cases s
  · exact ⟨_, e, (h.decodeReply.calc.setPhase (by simp [hphase]) (by decide)).respond rfl⟩
  · exact ⟨_, e, h.takeFailure _ rfl⟩
  · exact ⟨_, e, h.refuse⟩

theorem execAbort_keeps_inv {s : State} (h : s.Inv) (k : ErrorKind) : ∃ t, execAbort k s = .next t ∧ t.Inv := by
  obtain ⟨-, -, e⟩ | ⟨-, e⟩ := execAbort_cases k s
  · exact ⟨_, e, h.takeFailure k rfl⟩
  · exact ⟨_, e, h.refuse⟩

theorem execSetver_keeps_inv {s : State} (h : s.Inv) (v : BitVec 8) : ∃ t, execSetver v s = .next t ∧ t.Inv := by
  obtain ⟨-, e⟩ | ⟨-, e⟩ := execSetver_cases v s
  · exact ⟨_, e, (h.setLvm _).respond rfl⟩
  · exact ⟨_, e, h.raise rfl⟩

theorem execUnpack_keeps_inv {s : State} (h : s.Inv) : ∃ t, execUnpack s = .next t ∧ t.Inv := by
  obtain ⟨-, e⟩ | ⟨-, e⟩ := execUnpack_cases s
  · exact ⟨_, e, (h.setPkt _).respond rfl⟩
  · exact ⟨_, e, h.raise rfl⟩

/-- TS2I places a converted timestamp, which INSTANT_MAX bounds (42_timestamp.md R112). -/
theorem execTs2i_keeps_inv {s : State} (h : s.Inv) (r : TsReg) : ∃ t, execTs2i r s = .next t ∧ t.Inv := by
  have hrange : (instant (tsValue s.pkt r)).toNat ≤ Config.instantMax := by
    rw [toNat_instant]
    exact timestampNs_le _
  exact ⟨_, execTs2i_eq r s, (h.setTsi hrange).respond rfl⟩

/-- Every command answers a next state, and that state satisfies the invariant. -/
theorem exec_keeps_inv {s : State} (h : s.Inv) (i : Instr) : ∃ t, exec i s = .next t ∧ t.Inv := by
  cases i with
  | new => exact execNew_keeps_inv h
  | req v => exact execReq_keeps_inv h v
  | sent => exact execSent_keeps_inv h
  | reply => exact execReply_keeps_inv h
  | abort k => exact execAbort_keeps_inv h k
  | clrpkt => exact ⟨_, execClrpkt_eq s, (h.setPkt _).respond rfl⟩
  | setmode m => exact ⟨_, execSetmode_eq m s, (h.setLvm _).respond rfl⟩
  | setver v => exact execSetver_keeps_inv h v
  | pack => exact ⟨_, execPack_eq s, h.serialize.respond rfl⟩
  | unpack => exact execUnpack_keeps_inv h
  | ts2i r => exact execTs2i_keeps_inv h r
  | calculate => exact ⟨_, execCalc_eq s, h.calc.respond rfl⟩

theorem serveCmd_keeps_inv {s : State} (h : s.Inv) (w : CmdWord) : ∃ t, serveCmd w s = .next t ∧ t.Inv := by
  cases hw : decode w with
  | ok i =>
    rw [serveCmd_of_decode hw]
    exact exec_keeps_inv h i
  | error e => exact ⟨_, serveCmd_of_illegal hw s, h.refuse⟩

theorem serve_keeps_inv {s : State} (h : s.Inv) (x : Transaction) : ∃ t, serve x s = .next t ∧ t.Inv := by
  cases x with
  | reset => exact ⟨_, rfl, inv_freshInstance_setPortOut s⟩
  | regRead a => exact ⟨_, rfl, h.setPortOut nofun⟩
  | regWrite a v => exact ⟨_, rfl, (h.writeAddress a v).setPortOut nofun⟩
  | cmd w => exact serveCmd_keeps_inv h w

/-- With no transaction pending the block holds its state (60_exceptions.md R168, log 3). -/
theorem step_nil {s : State} (h : s.port = []) : step s = .next s := by
  simp [step, serveNext, h]

theorem step_keeps_inv {s : State} (h : s.Inv) : ∃ t, step s = .next t ∧ t.Inv := by
  cases hport : s.port with
  | nil => exact ⟨s, step_nil hport, h⟩
  | cons x rest =>
    rw [step_cons hport]
    exact serve_keeps_inv (h.setPort rest) x

/-- Settles O49: by the transaction served, and for a command word by the command it spells. -/
theorem stepKeepsInvariant : Obligations.StepKeepsInvariant := by
  intro s t h e
  obtain ⟨t', e', ht'⟩ := step_keeps_inv h
  cases e.symm.trans e'
  exact ht'

/-! ## The end of a run -/

theorem State.runOutcome_of_decoded {s : State} (h : s.phase = .decoded) : s.runOutcome = .success s.responseView := by
  simp [State.runOutcome, h]

theorem State.runOutcome_of_failed {s : State} (h : s.phase = .failed) : s.runOutcome = .failure s.err := by
  simp [State.runOutcome, h]

/-- Outside Failed no error is recorded (10_state.md R26). -/
theorem State.Inv.err_eq_none {s : State} (h : s.Inv) (hphase : s.phase ≠ .failed) : s.err = none := by
  simpa using mt h.errIffFailed.mp hphase

theorem unpack_stratum (m : Memory) : (unpack m).stratum = m.read 1 := (rfl)

theorem unpack_rxts (m : Memory) :
    (unpack m).rxts = m.read 32 ++ m.read 33 ++ m.read 34 ++ m.read 35 ++ m.read 36 ++ m.read 37 ++ m.read 38 ++
      m.read 39 := (rfl)

/-- The Response an accepted REPLY leaves: T1 as the host wrote it, the rest from the reply and the estimator. -/
theorem responseView_afterReply {s : State} (h : s.Inv) (hphase : s.phase = .awaitingReply) :
    ((s.decodeReply.calc.setPhase .decoded).respond .ok).responseView =
      ⟨s.t1, instant (unpack s.buf).rxts, calcOffset s.decodeReply, s.buf.read 1, none⟩ := by
  have herr : s.err = none := h.err_eq_none (by simp [hphase])
  simp [State.responseView, unpack_stratum, herr]

/-- Settles O47: the two accepted cases of REPLY, the invariant giving the empty error slot. -/
theorem replyEndsTheRun : Obligations.ReplyEndsTheRun := by
  intro s h hphase
  obtain ⟨-, hlen, e⟩ | ⟨-, hlen, e⟩ | ⟨hother, -⟩ := execReply_cases s
  · refine ⟨fun _ => ⟨_, e, ?_, ?_⟩, fun hne => absurd hlen hne⟩
    · rw [State.runOutcome_of_decoded (by simp), responseView_afterReply h hphase]
      simp
    · simp [toNat_instant, unpack_rxts]
  · refine ⟨fun heq => absurd heq hlen, fun _ => ⟨_, e, ?_⟩⟩
    rw [State.runOutcome_of_failed (by simp), State.takeFailure_err]
  · exact absurd hphase hother

end Sys2Proof.Machine
end

section
/-! PROOFS. The host port: the register map read and written, a read after a write, and that the transactions still to come
have no influence (20_memory.md R40, R42 to R44, R47, R50). -/

namespace Sys2Proof.Machine

/-- Settles O8: with nothing pending there is nothing to serve. -/
theorem emptyPortHoldsState : Obligations.EmptyPortHoldsState := fun _ h => step_nil h

/-! ## The register map -/

/-- The map is the inverse of the table of addresses: a register is mapped at its own address (20_memory.md R42). -/
theorem registerAt_regAddress (r : RegName) : registerAt (BitVec.ofNat 8 (regAddress r)) = some r := by
  cases r with
  | buf i => exact registerAt_buf i.isLt
  | _ => rfl

/-- A register is mapped at no other address than its own. -/
theorem regAddress_of_registerAt {a : RegAddr} {r : RegName} (h : registerAt a = some r) : regAddress r = a.toNat := by
  unfold registerAt at h
  split at h
  · cases h
    rfl
  · simpa using List.find?_some h

/-- The four ranges of addresses at which a register is mapped (20_memory.md R42). -/
theorem regAddress_ranges (r : RegName) :
    regAddress r ≤ 0x30 ∨ (0x40 ≤ regAddress r ∧ regAddress r ≤ 0x4A) ∨ (0x50 ≤ regAddress r ∧ regAddress r ≤ 0x57) ∨
      (0x60 ≤ regAddress r ∧ regAddress r ≤ 0x62) := by
  cases r with
  | buf i => exact .inl (by simp only [regAddress]; omega)
  | _ => decide

/-- The three ranges at which the host may write (20_memory.md R42, column "host access"). -/
theorem regAddress_ranges_of_hostWritable {r : RegName} (h : hostWritable r = true) :
    regAddress r ≤ 0x30 ∨ (0x40 ≤ regAddress r ∧ regAddress r ≤ 0x4A) ∨ (0x50 ≤ regAddress r ∧ regAddress r ≤ 0x53) := by
  cases r with
  | buf i => exact .inl (by simp only [regAddress]; omega)
  | _ => revert h; decide

theorem registerAt_eq_none {a : RegAddr}
    (h : (0x31 ≤ a.toNat ∧ a.toNat ≤ 0x3F) ∨ (0x4B ≤ a.toNat ∧ a.toNat ≤ 0x4F) ∨
      (0x58 ≤ a.toNat ∧ a.toNat ≤ 0x5F) ∨ 0x63 ≤ a.toNat) : registerAt a = none := by
  by_contra hmapped
  obtain ⟨r, hr⟩ := Option.ne_none_iff_exists'.mp hmapped
  have haddr := regAddress_of_registerAt hr
  have hranges := regAddress_ranges r
  omega

/-- Outside the writable ranges an address names a read-only register or none. -/
theorem hostWritable_eq_false_of_registerAt {a : RegAddr}
    (h : (0x31 ≤ a.toNat ∧ a.toNat ≤ 0x3F) ∨ (0x4B ≤ a.toNat ∧ a.toNat ≤ 0x4F) ∨
      (0x54 ≤ a.toNat ∧ a.toNat ≤ 0x5F) ∨ 0x60 ≤ a.toNat) {r : RegName} (hr : registerAt a = some r) :
    hostWritable r = false := by
  rw [← Bool.not_eq_true]
  intro hwritable
  have haddr := regAddress_of_registerAt hr
  have hranges := regAddress_ranges_of_hostWritable hwritable
  omega

/-! ## Reading and writing through the map -/

theorem readAddress_of_registerAt {a : RegAddr} {r : RegName} (h : registerAt a = some r) (s : State) :
    readAddress s a = readRegister s r := by
  simp only [readAddress, h]

theorem readAddress_of_unmapped {a : RegAddr} (h : registerAt a = none) (s : State) : readAddress s a = 0 := by
  simp only [readAddress, h]

theorem writeAddress_of_registerAt {a : RegAddr} {r : RegName} (h : registerAt a = some r) (s : State) (v : Word) :
    writeAddress s a v = writeRegister s r v := by
  simp only [writeAddress, h]

/-- A read-only register keeps its value (20_memory.md R44). -/
theorem writeRegister_of_readOnly {r : RegName} (h : hostWritable r = false) (s : State) (v : Word) :
    writeRegister s r v = s := by
  cases r with
  | delta | ndelay | offset | tsi | phase | err | rsp => rfl
  | _ => cases h

theorem writeAddress_of_notWritable {a : RegAddr} (h : ∀ r, registerAt a = some r → hostWritable r = false) (s : State)
    (v : Word) : writeAddress s a v = s := by
  cases hr : registerAt a with
  | none => simp only [writeAddress, hr]
  | some r => rw [writeAddress_of_registerAt hr, writeRegister_of_readOnly (h r hr)]

theorem readAddress_regAddress (s : State) (r : RegName) :
    readAddress s (BitVec.ofNat 8 (regAddress r)) = readRegister s r :=
  readAddress_of_registerAt (registerAt_regAddress r) s

theorem step_regRead {s : State} {a : RegAddr} {rest : List Transaction} (h : s.port = .regRead a :: rest) :
    step s = .next ((s.setPort rest).setPortOut (.data (readAddress s a))) :=
  step_cons h

theorem step_regWrite {s : State} {a : RegAddr} {v : Word} {rest : List Transaction} (h : s.port = .regWrite a v :: rest) :
    step s = .next ((writeAddress (s.setPort rest) a v).setPortOut .nothing) :=
  step_cons h

theorem step_regWrite_regAddress (s : State) (r : RegName) (v : Word) (rest : List Transaction) :
    step { s with port := .regWrite (BitVec.ofNat 8 (regAddress r)) v :: rest } =
      .next ((writeRegister (s.setPort rest) r v).setPortOut .nothing) := by
  rw [step_regWrite rfl, writeAddress_of_registerAt (registerAt_regAddress r)]
  rfl

/-! ## The three statuses, as the host reads them -/

theorem readAddress_phase (s : State) : readAddress s 0x60 = s.phase.code.setWidth 64 :=
  readAddress_regAddress s .phase

theorem readAddress_err (s : State) : readAddress s 0x61 = (errCode s.err).setWidth 64 :=
  readAddress_regAddress s .err

theorem readAddress_rsp (s : State) : readAddress s 0x62 = s.rsp.code.setWidth 64 :=
  readAddress_regAddress s .rsp

/-- Settles O9: the map row by row, each row the register mapped at its own address. -/
theorem regReadReturnsMappedRegister : Obligations.RegReadReturnsMappedRegister := by
  refine ⟨fun s a rest h => step_regRead h, fun s => ?_⟩
  have row := readAddress_regAddress s
  refine ⟨fun i hi => row (.buf ⟨i, hi⟩), row .buflen, row .lvm, row .stratum, row .poll, row .precision, row .rootdelay,
    row .rootdisp, row .refid, row .refts, row .orgts, row .rxts, row .txts, row .t1, row .t2, row .t3, row .t4,
    row .delta, row .ndelay, row .offset, row .tsi, ?phase, ?err, ?rsp,
    fun a ha => readAddress_of_unmapped (registerAt_eq_none ha) s⟩
  case phase =>
    rw [readAddress_phase]
    cases s.phase <;> rfl
  case err =>
    rw [readAddress_err]
    cases s.err with
    | none => rfl
    | some k => cases k <;> rfl
  case rsp =>
    rw [readAddress_rsp]
    cases s.rsp with
    | ok => rfl
    | error k => cases k <;> rfl
    | refused => rfl

/-- Settles O10: the map row by row; a byte of BUF by the laws of its writes, an address no row of which is writable by
leaving the state as it is. -/
theorem regWriteWritesOnlyItsRegister : Obligations.RegWriteWritesOnlyItsRegister := by
  intro s v rest write t
  have row (r : RegName) := step_regWrite_regAddress s r v rest
  refine ⟨?buf, row .buflen, row .lvm, row .stratum, row .poll, row .precision, row .rootdelay, row .rootdisp, row .refid,
    row .refts, row .orgts, row .rxts, row .txts, row .t1, row .t2, row .t3, row .t4, ?notWritable⟩
  case buf =>
    intro i hi hwf
    exact ⟨s.buf.write i (v.setWidth 8), row (.buf ⟨i, hi⟩), Memory.read_write_same hwf hi _,
      fun j hj => Memory.read_write_other _ _ hj⟩
  case notWritable =>
    intro a ha
    refine (step_regWrite rfl).trans ?_
    rw [writeAddress_of_notWritable fun _ hr => hostWritable_eq_false_of_registerAt ha hr]
    rfl

/-! ## A read after a write -/

/-- Cutting a value to `n` bits and extending it back is its remainder modulo `2 ^ n`. -/
theorem setWidth_setWidth_word (v : Word) (n : Nat) : (v.setWidth n).setWidth 64 = BitVec.ofNat 64 (v.toNat % 2 ^ n) := by
  apply BitVec.eq_of_toNat_eq
  simp

/-- What a writable register of any width reads after a write (20_memory.md R43, R44). -/
theorem readRegister_writeRegister {s : State} (hwf : s.buf.wf = true) {r : RegName} (h : hostWritable r = true) (v : Word) :
    readRegister (writeRegister s r v) r = (v.setWidth (registerWidth r)).setWidth 64 := by
  cases r with
  | buf i => exact congrArg (BitVec.setWidth 64) (Memory.read_write_same hwf i.isLt _)
  | buflen | lvm | stratum | poll | precision | rootdelay | rootdisp | refid => rfl
  | refts | orgts | rxts | txts | t1 | t2 | t3 | t4 =>
    simp [readRegister, writeRegister, registerWidth]
  | _ => cases h

/-- The two fields of the port are no registers: replacing them changes no read (log 1). -/
@[simp] theorem readRegister_setPort (s : State) (q : List Transaction) (r : RegName) :
    readRegister (s.setPort q) r = readRegister s r := by
  cases r <;> rfl

@[simp] theorem readRegister_setPortOut (s : State) (o : PortOut) (r : RegName) :
    readRegister (s.setPortOut o) r = readRegister s r := by
  cases r <;> rfl

/-- Settles O11: two steps; a writable register by the read-after-write rule, a read-only one because the write changes
nothing. -/
theorem readBackAfterWrite : Obligations.ReadBackAfterWrite := by
  intro s a v r rest hwf hr hport
  obtain ⟨-, -, -, -, -, -, hrsp, hpending, -⟩ := writeRegister_frame (s.setPort (.regRead a :: rest)) r v
  have hwrite := step_regWrite hport
  rw [writeAddress_of_registerAt hr] at hwrite
  refine ⟨_, _, hwrite, step_regRead hpending, ?_, hrsp, rfl⟩
  rw [State.setPortOut_portOut, readAddress_of_registerAt hr, readRegister_setPortOut]
  cases h : hostWritable r with
  | true =>
    rw [if_pos rfl, readRegister_writeRegister (s := s.setPort (.regRead a :: rest)) hwf h, setWidth_setWidth_word]
  | false =>
    rw [if_neg Bool.false_ne_true, writeRegister_of_readOnly h, readRegister_setPort]

/-! ## The transactions still to come

Every update of the state commutes with replacing them, so every command and every transaction does. -/

@[simp] theorem State.setPort_setPort (s : State) (p q : List Transaction) : (s.setPort p).setPort q = s.setPort q := (rfl)

@[simp] theorem State.setPkt_setPort (s : State) (q : List Transaction) (p : Packet) :
    (s.setPort q).setPkt p = (s.setPkt p).setPort q := (rfl)

@[simp] theorem State.setLvm_setPort (s : State) (q : List Transaction) (b : Byte) :
    (s.setPort q).setLvm b = (s.setLvm b).setPort q := (rfl)

@[simp] theorem State.setBuffer_setPort (s : State) (q : List Transaction) (m : Memory) (n : BitVec 16) :
    (s.setPort q).setBuffer m n = (s.setBuffer m n).setPort q := (rfl)

@[simp] theorem State.setTsi_setPort (s : State) (q : List Transaction) (v : Word) :
    (s.setPort q).setTsi v = (s.setTsi v).setPort q := (rfl)

@[simp] theorem State.setPhase_setPort (s : State) (q : List Transaction) (p : Phase) :
    (s.setPort q).setPhase p = (s.setPhase p).setPort q := (rfl)

@[simp] theorem State.setPortOut_setPort (s : State) (q : List Transaction) (o : PortOut) :
    (s.setPort q).setPortOut o = (s.setPortOut o).setPort q := (rfl)

@[simp] theorem State.respond_setPort (s : State) (q : List Transaction) (r : Response) :
    (s.setPort q).respond r = (s.respond r).setPort q := (rfl)

@[simp] theorem State.refuse_setPort (s : State) (q : List Transaction) :
    (s.setPort q).refuse = s.refuse.setPort q := (rfl)

@[simp] theorem State.raise_setPort (s : State) (q : List Transaction) (k : ErrorKind) :
    (s.setPort q).raise k = (s.raise k).setPort q := (rfl)

@[simp] theorem State.takeFailure_setPort (s : State) (q : List Transaction) (k : ErrorKind) (r : Response) :
    (s.setPort q).takeFailure k r = (s.takeFailure k r).setPort q := (rfl)

@[simp] theorem State.freshInstance_setPort (s : State) (q : List Transaction) :
    (s.setPort q).freshInstance = s.freshInstance.setPort q := (rfl)

@[simp] theorem State.serialize_setPort (s : State) (q : List Transaction) :
    (s.setPort q).serialize = s.serialize.setPort q := by
  rw [State.serialize, State.setPort_pkt, State.setPort_buf, State.setBuffer_setPort, State.serialize]

@[simp] theorem State.calc_setPort (s : State) (q : List Transaction) : (s.setPort q).calc = s.calc.setPort q := (rfl)

@[simp] theorem State.decodeReply_setPort (s : State) (q : List Transaction) :
    (s.setPort q).decodeReply = s.decodeReply.setPort q := (rfl)

@[simp] theorem writeRegister_setPort (s : State) (q : List Transaction) (r : RegName) (v : Word) :
    writeRegister (s.setPort q) r v = (writeRegister s r v).setPort q := by
  cases r <;> rfl

@[simp] theorem writeAddress_setPort (s : State) (q : List Transaction) (a : RegAddr) (v : Word) :
    writeAddress (s.setPort q) a v = (writeAddress s a v).setPort q := by
  cases h : registerAt a <;> simp [writeAddress, h]

@[simp] theorem readAddress_setPort (s : State) (q : List Transaction) (a : RegAddr) :
    readAddress (s.setPort q) a = readAddress s a := by
  cases h : registerAt a <;> simp [readAddress, h]

@[simp] theorem holdsPacket_setPort (s : State) (q : List Transaction) : holdsPacket (s.setPort q) = holdsPacket s := (rfl)

/-- A result whose next state has `q` pending. -/
def withPending (q : List Transaction) : Result → Result
  | .next t => .next (t.setPort q)
  | .fault r => .fault r
  | .refused r => .refused r

@[simp] theorem withPending_next (q : List Transaction) (t : State) : withPending q (.next t) = .next (t.setPort q) := rfl

/-- What a command does never depends on the pending transactions, and it leaves them in place (20_memory.md R47). -/
theorem exec_setPort (i : Instr) (s : State) (q : List Transaction) :
    exec i (s.setPort q) = withPending q (exec i s) := by
  cases i with
  | new => simp [exec, execNew, apply_ite (withPending q)]
  | req v => simp [exec, execReq, apply_ite (withPending q)]
  | sent => simp [exec, execSent, apply_ite (withPending q)]
  | reply => simp [exec, execReply, apply_ite (withPending q)]
  | abort k => simp [exec, execAbort, apply_ite (withPending q)]
  | clrpkt => simp [exec, execClrpkt_eq]
  | setmode m => simp [exec, execSetmode_eq]
  | setver v => simp [exec, execSetver, apply_ite (withPending q)]
  | pack => simp [exec, execPack_eq]
  | unpack => simp [exec, execUnpack, apply_ite (withPending q)]
  | ts2i r => simp [exec, execTs2i_eq]
  | calculate => simp [exec, execCalc_eq]

theorem serve_setPort (x : Transaction) (s : State) (q : List Transaction) :
    serve x (s.setPort q) = withPending q (serve x s) := by
  cases x with
  | reset => simp [serve, serveReset]
  | regRead a => simp [serve, serveRegRead]
  | regWrite a v => simp [serve, serveRegWrite]
  | cmd w =>
    cases hw : decode w with
    | ok i => simp only [serve, serveCmd_of_decode hw, exec_setPort]
    | error e => simp [serve, serveCmd_of_illegal hw]

/-- Settles O46: serving commutes with replacing the transactions behind the one served. -/
theorem pendingTransactionsHaveNoInfluence : Obligations.PendingTransactionsHaveNoInfluence := by
  intro s t x rest rest' hport hstep
  rw [step_cons hport] at hstep
  calc step { s with port := x :: rest' }
    _ = serve x ((s.setPort rest).setPort rest') := step_cons rfl
    _ = withPending rest' (serve x (s.setPort rest)) := serve_setPort x _ rest'
    _ = .next (t.setPort rest') := by rw [hstep, withPending_next]

end Sys2Proof.Machine
end

section
/-! PROOFS. The encoding: a word spells a command exactly when it lies under the command's row of the opcode map and its
operand bits are the command's operand; what an illegal word does; and REQ as a sequence of primitives (30_encoding.md). -/

namespace Sys2Proof

open Sys2Proof.Laws.EncodeMatchesRow (mask pattern)

/-- Settles O1: the twelve words are evaluated. -/
theorem specWordsDecodeAsListed : Obligations.SpecWordsDecodeAsListed := by
  unfold Obligations.SpecWordsDecodeAsListed
  decide

/-! ## Words as two bytes, under a row's match and mask -/

/-- Two words written as two bytes are equal when both bytes are. -/
theorem append_eq_append_iff {a b c d : BitVec 8} : a ++ b = c ++ d ↔ a = c ∧ b = d := by
  constructor
  · intro h
    have hhigh := congrArg (BitVec.extractLsb' 8 8) h
    have hlow := congrArg (BitVec.extractLsb' 0 8) h
    rw [extract_high, extract_high] at hhigh
    rw [extract_low, extract_low] at hlow
    exact ⟨hhigh, hlow⟩
  · rintro ⟨rfl, rfl⟩
    rfl

/-- A row's mask covers the opcode byte and the reserved bits (30_encoding.md R71). -/
theorem mask_eq_append (c : Opcode) : mask c = 0xFF#8 ++ c.reserved := by
  cases c <;> rfl

/-- A row's match is its opcode byte over an argument byte of 0 (30_encoding.md R71). -/
theorem pattern_eq_append (c : Opcode) : pattern c = c.number ++ 0#8 := by
  cases c <;> rfl

theorem and_mask_eq_pattern_iff (w : CmdWord) (c : Opcode) :
    w &&& mask c = pattern c ↔ w.extractLsb' 8 8 = c.number ∧ w.extractLsb' 0 8 &&& c.reserved = 0 := by
  have hbytes : w &&& mask c = w.extractLsb' 8 8 ++ (w.extractLsb' 0 8 &&& c.reserved) := by
    calc w &&& mask c
      _ = (w.extractLsb' 8 8 ++ w.extractLsb' 0 8) &&& (0xFF#8 ++ c.reserved) := by rw [high_append_low, mask_eq_append]
      _ = (w.extractLsb' 8 8 &&& BitVec.allOnes 8) ++ (w.extractLsb' 0 8 &&& c.reserved) := BitVec.and_append
      _ = w.extractLsb' 8 8 ++ (w.extractLsb' 0 8 &&& c.reserved) := by rw [BitVec.and_allOnes]
  rw [hbytes, pattern_eq_append, append_eq_append_iff]
  rfl

/-- Reserving the bits from place `n` up asks that none of them be set. -/
theorem and_allOnes_shiftLeft_eq_zero_iff {k : Nat} (x : BitVec k) (n : Nat) :
    x &&& (BitVec.allOnes k <<< n) = 0 ↔ ∀ i, n ≤ i → x.getLsbD i = false := by
  refine BitVec.zero_iff_eq_false.trans (forall_congr' fun i => ?_)
  by_cases hi : i < k
  · by_cases hn : n ≤ i
    · simp [hi, hn, Nat.not_lt.mpr hn]
    · simp [hn, Nat.lt_of_not_le hn]
  · simp [BitVec.getLsbD_of_ge x i (by omega)]

/-- An argument with no reserved bit set is its operand, extended (30_encoding.md R72). -/
theorem setWidth_extractLsb'_of_reserved {k n : Nat} {x : BitVec k} (h : x &&& (BitVec.allOnes k <<< n) = 0) :
    (x.extractLsb' 0 n).setWidth k = x := by
  have hhigh := (and_allOnes_shiftLeft_eq_zero_iff x n).mp h
  ext i hi
  by_cases hn : n ≤ i
  · simpa [hi, Nat.not_lt.mpr hn] using hhigh i hn
  · simp [hi, Nat.lt_of_not_le hn]

/-- Reserving the bits from place `n` up asks that the field they form be 0. -/
theorem and_allOnes_shiftLeft_eq_zero_iff_extractLsb' {k n m : Nat} (hm : n + m = k) (x : BitVec k) :
    x &&& (BitVec.allOnes k <<< n) = 0 ↔ x.extractLsb' n m = 0 := by
  rw [and_allOnes_shiftLeft_eq_zero_iff]
  refine Iff.trans ⟨fun h i => ?_, fun h i hi => ?_⟩ BitVec.zero_iff_eq_false.symm
  · simp [h (n + i) (by omega)]
  · by_cases hk : i < k
    · have := h (i - n)
      rwa [BitVec.getLsbD_extractLsb', Nat.add_sub_cancel' hi, decide_eq_true (by omega), Bool.true_and] at this
    · exact BitVec.getLsbD_of_ge x i (by omega)

/-! ## The operand of a row -/

theorem extractLsb'_setWidth_self {n k : Nat} (h : n ≤ k) (x : BitVec n) : (x.setWidth k).extractLsb' 0 n = x := by
  rw [BitVec.extractLsb'_setWidth_of_le (by omega), BitVec.extractLsb'_eq_self]

/-- A row's operand is that of the row's command (30_encoding.md R72). -/
theorem Instr.withOperand_arg {i : Instr} (h : i.wellFormed = true) : i.opcode.withOperand i.arg = .ok i := by
  cases i with
  | abort k =>
    have hk : ErrorKind.ofAbortOperand k.code = some k := (ErrorKind.ofAbortOperand_eq_some _ _).mpr ⟨rfl, h⟩
    simp only [Instr.opcode, Instr.arg, Opcode.withOperand, extractLsb'_setWidth_self (show 4 ≤ 8 by decide), hk]
  | setmode m => simp only [Instr.opcode, Instr.arg, Opcode.withOperand, extractLsb'_setWidth_self (show 3 ≤ 8 by decide)]
  | ts2i r =>
    simp only [Instr.opcode, Instr.arg, Opcode.withOperand, extractLsb'_setWidth_self (show 2 ≤ 8 by decide),
      TsReg.ofSelector_code]
  | new | req | sent | reply | clrpkt | setver | pack | unpack | calculate => rfl

theorem Opcode.withOperand_abort_eq_ok {arg : BitVec 8} {i : Instr} :
    Opcode.abort.withOperand arg = .ok i ↔
      ∃ k, i = .abort k ∧ k.code = arg.extractLsb' 0 4 ∧ k.reportable = true := by
  simp only [← ErrorKind.ofAbortOperand_eq_some]
  cases h : ErrorKind.ofAbortOperand (arg.extractLsb' 0 4) <;> simp [Opcode.withOperand, h, eq_comm]

/-- What a row makes of an argument without reserved bits is a well-formed command of that row, with that argument. -/
theorem Opcode.of_withOperand {c : Opcode} {arg : BitVec 8} {i : Instr} (hr : arg &&& c.reserved = 0)
    (h : c.withOperand arg = .ok i) : i.opcode = c ∧ i.arg = arg ∧ i.wellFormed = true := by
  cases c with
  | new | sent | reply | clrpkt | pack | unpack | calculate =>
    cases h
    have harg : arg = 0 := BitVec.and_allOnes.symm.trans hr
    exact ⟨rfl, harg.symm, rfl⟩
  | req | setver =>
    cases h
    exact ⟨rfl, rfl, rfl⟩
  | abort =>
    obtain ⟨k, rfl, hcode, hk⟩ := Opcode.withOperand_abort_eq_ok.mp h
    refine ⟨rfl, ?_, hk⟩
    rw [Instr.arg, hcode]
    exact setWidth_extractLsb'_of_reserved hr
  | setmode =>
    cases h
    exact ⟨rfl, setWidth_extractLsb'_of_reserved hr, rfl⟩
  | ts2i =>
    cases h
    refine ⟨rfl, ?_, rfl⟩
    rw [Instr.arg, TsReg.code_ofSelector]
    exact setWidth_extractLsb'_of_reserved hr

/-! ## The round trip -/

/-- Settles O2: the fields of the word select the command's row, and the row's operand is the command's. -/
theorem decodeInvertsEncode : Obligations.DecodeInvertsEncode := by
  intro i h
  refine decode_eq_ok.mpr ⟨i.opcode, ?_, ?_, ?_⟩
  · rw [encode_high, Opcode.ofNumber_number]
  · rw [encode_low, Instr.arg_reserved]
  · rw [encode_low, Instr.withOperand_arg h]

/-- Settles O3: the row of the word gives the high byte back, the row's operand the low byte. -/
theorem encodeInvertsDecode : Obligations.EncodeInvertsDecode := by
  intro w i h
  obtain ⟨c, hc, hr, hi⟩ := decode_eq_ok.mp h
  obtain ⟨rfl, harg, hwf⟩ := Opcode.of_withOperand hr hi
  refine ⟨?_, hwf⟩
  rw [encode, harg, Opcode.number_of_ofNumber hc, high_append_low]

/-! ## The opcode map, row by row -/

theorem Opcode.ofNumber_eq_some_iff {op : BitVec 8} {c : Opcode} : Opcode.ofNumber op = some c ↔ op = c.number := by
  constructor
  · intro h
    exact (Opcode.number_of_ofNumber h).symm
  · rintro rfl
    exact Opcode.ofNumber_number c

/-- A word spells a command when it lies under the command's row and the row makes the command of its low byte. -/
theorem decode_eq_ok_iff_row {w : CmdWord} {i : Instr} :
    decode w = .ok i ↔
      w &&& mask i.opcode = pattern i.opcode ∧ i.opcode.withOperand (w.extractLsb' 0 8) = .ok i := by
  rw [decode_eq_ok, and_mask_eq_pattern_iff]
  constructor
  · rintro ⟨c, hc, hr, hi⟩
    obtain ⟨rfl, -, -⟩ := Opcode.of_withOperand hr hi
    exact ⟨⟨Opcode.ofNumber_eq_some_iff.mp hc, hr⟩, hi⟩
  · rintro ⟨⟨hc, hr⟩, hi⟩
    exact ⟨_, Opcode.ofNumber_eq_some_iff.mpr hc, hr, hi⟩

/-- A command without operand is spelled by its row's match alone. -/
theorem decode_eq_ok_iff_of_plain {i : Instr} (h : ∀ arg, i.opcode.withOperand arg = .ok i) (w : CmdWord) :
    decode w = .ok i ↔ w &&& mask i.opcode = pattern i.opcode := by
  rw [decode_eq_ok_iff_row, and_iff_left (h _)]

/-- The kinds the transport reports are the numbers 2 to 6 (30_encoding.md R74, R75). -/
theorem ErrorKind.reportable_iff (k : ErrorKind) : k.reportable = true ↔ 2 ≤ k.code.toNat ∧ k.code.toNat ≤ 6 := by
  cases k <;> decide

/-- The selectors in the order of 30_encoding.md R73. -/
theorem TsReg.ofSelector_eq (s : BitVec 2) :
    TsReg.ofSelector s = if s = 0 then .refts else if s = 1 then .orgts else if s = 2 then .rxts else .txts := by
  revert s
  decide

/-- Settles O4: each row is the general row equivalence with the row's operand written out. -/
theorem wordSpellsRowUnderMatchAndMask : Obligations.WordSpellsRowUnderMatchAndMask := by
  intro w
  have plain {i : Instr} (h : ∀ arg, i.opcode.withOperand arg = .ok i) := decode_eq_ok_iff_of_plain h w
  have operand {i : Instr} {p : Prop} (h : i.opcode.withOperand (w.extractLsb' 0 8) = .ok i ↔ p) :
      decode w = .ok i ↔ w &&& mask i.opcode = pattern i.opcode ∧ p :=
    decode_eq_ok_iff_row.trans (and_congr_right' h)
  refine ⟨plain fun _ => rfl, fun v => operand ?req, plain fun _ => rfl, plain fun _ => rfl, fun k => operand ?abort,
    plain fun _ => rfl, fun m => operand ?setmode, fun v => operand ?setver, plain fun _ => rfl, plain fun _ => rfl,
    fun r => operand ?ts2i, plain fun _ => rfl⟩
  case req => simp [Instr.opcode, Opcode.withOperand, eq_comm]
  case abort =>
    simp [Instr.opcode, Opcode.withOperand_abort_eq_ok, BitVec.extractLsb'_extractLsb'_of_le, ErrorKind.reportable_iff]
  case setmode => simp [Instr.opcode, Opcode.withOperand, BitVec.extractLsb'_extractLsb'_of_le, eq_comm]
  case setver => simp [Instr.opcode, Opcode.withOperand, eq_comm]
  case ts2i =>
    rw [← TsReg.ofSelector_eq]
    simp [Instr.opcode, Opcode.withOperand, BitVec.extractLsb'_extractLsb'_of_le, eq_comm]

/-! ## What the decoder rejects -/

/-- The opcodes that name no row are those outside the twelve the rule lists (30_encoding.md R76). -/
theorem Opcode.ofNumber_eq_none_iff (op : BitVec 8) : Opcode.ofNumber op = none ↔
    op ∉ [0x01#8, 0x02#8, 0x03#8, 0x04#8, 0x05#8, 0x10#8, 0x11#8, 0x12#8, 0x13#8, 0x14#8, 0x20#8, 0x21#8] := by
  have hnumbers : [0x01#8, 0x02#8, 0x03#8, 0x04#8, 0x05#8, 0x10#8, 0x11#8, 0x12#8, 0x13#8, 0x14#8, 0x20#8, 0x21#8] =
      Opcode.all.map Opcode.number := rfl
  simp only [hnumbers, Opcode.ofNumber, List.find?_eq_none, List.mem_map, not_exists, not_and, beq_iff_eq]

/-- The kinds ABORT's operand can name (30_encoding.md R74, R75). -/
theorem ErrorKind.exists_reportable_iff (n : BitVec 4) :
    (∃ k : ErrorKind, k.code = n ∧ k.reportable = true) ↔ n ∈ [2#4, 3#4, 4#4, 5#4, 6#4] := by
  constructor
  · rintro ⟨k, rfl, hk⟩
    revert hk
    cases k <;> decide
  · intro hn
    simp only [List.mem_cons, List.not_mem_nil, or_false] at hn
    obtain rfl | rfl | rfl | rfl | rfl := hn
    · exact ⟨.resolutionFailure, rfl, rfl⟩
    · exact ⟨.connectFailure, rfl, rfl⟩
    · exact ⟨.timeout, rfl, rfl⟩
    · exact ⟨.writeFailure, rfl, rfl⟩
    · exact ⟨.readFailure, rfl, rfl⟩

/-- The only row that rejects an operand is ABORT's (30_encoding.md R75 step 3). -/
theorem Opcode.exists_withOperand_iff (c : Opcode) (arg : BitVec 8) :
    (∃ i, c.withOperand arg = .ok i) ↔ (c = .abort → arg.extractLsb' 0 4 ∈ [2#4, 3#4, 4#4, 5#4, 6#4]) := by
  cases c with
  | abort =>
    rw [← ErrorKind.exists_reportable_iff]
    simp [Opcode.withOperand_abort_eq_ok]
  | _ => exact iff_of_true ⟨_, rfl⟩ nofun

end Sys2Proof

namespace Sys2Proof.Machine

/-! ## Illegal words and refused commands -/

/-- Under a row's opcode a word is illegal for a reserved bit or for ABORT's kind. -/
theorem isIllegal_iff_of_number {w : CmdWord} {c : Opcode} (h : w.extractLsb' 8 8 = c.number) :
    IsIllegal w ↔ w.extractLsb' 0 8 &&& c.reserved = 0 →
      ¬ (c = .abort → (w.extractLsb' 0 8).extractLsb' 0 4 ∈ [2#4, 3#4, 4#4, 5#4, 6#4]) := by
  simp only [IsIllegal, h]
  generalize w.extractLsb' 0 8 = arg
  cases c with
  | new | sent | reply | clrpkt | pack | unpack | calculate =>
    have hr : arg &&& 0xFF#8 = arg := BitVec.and_allOnes
    simp [Opcode.number, Opcode.reserved, hr]
  | req | setver => simp [Opcode.number, Opcode.reserved]
  | setmode =>
    have hr : arg &&& 0xF8#8 = 0#8 ↔ arg.extractLsb' 3 5 = 0#5 :=
      and_allOnes_shiftLeft_eq_zero_iff_extractLsb' (k := 8) (n := 3) (m := 5) rfl arg
    simp [Opcode.number, Opcode.reserved, hr]
  | ts2i =>
    have hr : arg &&& 0xFC#8 = 0#8 ↔ arg.extractLsb' 2 6 = 0#6 :=
      and_allOnes_shiftLeft_eq_zero_iff_extractLsb' (k := 8) (n := 2) (m := 6) rfl arg
    simp [Opcode.number, Opcode.reserved, hr]
  | abort =>
    have hr : arg &&& 0xF0#8 = 0#8 ↔ arg.extractLsb' 4 4 = 0#4 :=
      and_allOnes_shiftLeft_eq_zero_iff_extractLsb' (k := 8) (n := 4) (m := 4) rfl arg
    simp [Opcode.number, Opcode.reserved, hr, imp_iff_not_or]

/-- The decoder rejects the words the spec lists, and no others (30_encoding.md R76). -/
theorem exists_decode_iff (w : CmdWord) : (∃ i, decode w = .ok i) ↔ ¬ IsIllegal w := by
  simp only [decode_eq_ok]
  cases hc : Opcode.ofNumber (w.extractLsb' 8 8) with
  | none =>
    have hillegal : IsIllegal w := .inl ((Opcode.ofNumber_eq_none_iff _).mp hc)
    simp [hillegal]
  | some c =>
    rw [isIllegal_iff_of_number (Opcode.ofNumber_eq_some_iff.mp hc), ← Opcode.exists_withOperand_iff]
    simp

theorem exec_of_not_accepted {i : Instr} {s : State} (h : accepts i s.phase = false) : exec i s = .next s.refuse := by
  cases i with
  | new => simp [exec, execNew, h]
  | req v => simp [exec, execReq, h]
  | sent => simp [exec, execSent, h]
  | reply => simp [exec, execReply, h]
  | abort k => simp [exec, execAbort, h]
  | _ => simp [accepts] at h

theorem serveCmd_of_isIllegal {w : CmdWord} (h : IsIllegal w) (s : State) : serveCmd w s = .next s.refuse := by
  cases hw : decode w with
  | ok i => exact absurd h ((exists_decode_iff w).mp ⟨i, hw⟩)
  | error e => exact serveCmd_of_illegal hw s

/-- Settles O5: an illegal word is refused by the port, a command out of phase by its own acceptance test. -/
theorem illegalWordsAreRefused : Obligations.IllegalWordsAreRefused := by
  refine ⟨rfl, exists_decode_iff, fun s w rest hport h => ?_⟩
  suffices hrefused : serveCmd w (s.setPort rest) = .next (s.setPort rest).refuse from
    (step_cons hport).trans hrefused
  obtain hillegal | ⟨i, hw, hphase⟩ := h
  · exact serveCmd_of_isIllegal hillegal _
  · rw [serveCmd_of_decode hw]
    exact exec_of_not_accepted hphase

/-! ## A command word on the port -/

/-- Placing a word and taking it off the port again leaves the state as it was. -/
theorem setPort_issueCmd (s : State) (w : CmdWord) : (s.issueCmd w).setPort s.port = s := (rfl)

theorem step_cmd_of_decode {s : State} {w : CmdWord} {i : Instr} {rest : List Transaction} (hport : s.port = .cmd w :: rest)
    (hw : decode w = .ok i) : step s = exec i (s.setPort rest) :=
  (step_cons hport).trans (serveCmd_of_decode hw _)

/-- The host's numbering read through the word it places (log 11). -/
theorem decodeTableWord_eq_some_iff {w : Nat} {i : Instr} :
    decodeTableWord 16 w = some i ↔ decode (hostWord 16 w) = .ok i := by
  have hword : tableWord 16 w = some (hostWord 16 w) := if_pos (Nat.mod_lt w (by decide))
  cases h : decode (hostWord 16 w) <;> simp [decodeTableWord, hword, h]

/-- Settles O6: the step serves the word, wherever it came from. -/
theorem stepRunsDecodedCommand : Obligations.StepRunsDecodedCommand := by
  refine ⟨fun s w i rest hport hw => step_cmd_of_decode hport hw, fun s w i _ hw => ?_⟩
  have hstep : step (s.issueCmd (hostWord 16 w)) = exec i ((s.issueCmd (hostWord 16 w)).setPort s.port) :=
    step_cmd_of_decode rfl (decodeTableWord_eq_some_iff.mp hw)
  rwa [setPort_issueCmd] at hstep

/-! ## REQ as a sequence of primitives

An answer is overwritten by the next one and is read by no primitive, so it moves to the end of the sequence. -/

theorem State.respond_respond (s : State) (q r : Response) : (s.respond q).respond r = s.respond r := (rfl)

theorem State.setLvm_respond (s : State) (r : Response) (b : Byte) :
    (s.respond r).setLvm b = (s.setLvm b).respond r := (rfl)

theorem State.setBuffer_respond (s : State) (r : Response) (m : Memory) (n : BitVec 16) :
    (s.respond r).setBuffer m n = (s.setBuffer m n).respond r := (rfl)

theorem State.serialize_respond (s : State) (r : Response) : (s.respond r).serialize = s.serialize.respond r := by
  rw [State.serialize, State.respond_pkt, State.respond_buf, State.setBuffer_respond, State.serialize]

/-- Setting the mode and then the version in a cleared Packet builds REQ's Packet (44_exchange.md R132). -/
theorem setLvm_setLvm_zero (s : State) (v : Byte) :
    ((s.setPkt Packet.zero).setLvm (setMode Packet.zero.lvm 3)).setLvm (setVersion (setMode Packet.zero.lvm 3) v) =
      s.setPkt (requestPacket v) := (rfl)

theorem execSetver_of_legalVersion {v : Byte} (h : legalVersion v = true) (s : State) :
    execSetver v s = .next ((s.setLvm (setVersion s.pkt.lvm v)).respond .ok) := by
  simp [execSetver, h]

/-- Settles O15: the four primitives leave REQ's Packet, serialized, and the last answer OK. -/
theorem reqEqualsPrimitiveSequence : Obligations.ReqEqualsPrimitiveSequence := by
  intro s v hidle hv
  have hlegal : legalVersion v = true := (legalVersion_iff v).mpr hv
  refine ⟨_, _, _, ((s.setPkt (requestPacket v)).serialize).respond .ok, execClrpkt_eq s, execSetmode_eq 3 _,
    execSetver_of_legalVersion hlegal _, ?pack, ?req⟩
  case pack =>
    refine (execPack_eq _).trans ?_
    simp only [State.setLvm_respond, State.serialize_respond, State.respond_respond, State.setLvm_pkt, State.setPkt_pkt,
      State.respond_pkt, setLvm_setLvm_zero]
  case req =>
    obtain ⟨-, -, hreq⟩ | ⟨-, hillegal, -⟩ | ⟨hphase, -⟩ := execReq_cases v s
    · exact hreq
    · exact absurd hlegal (by simp [hillegal])
    · exact absurd hidle hphase

end Sys2Proof.Machine
end

section
/-! PROOFS. The header commands: CLRPKT, SETMODE and SETVER, each from the word it is spelled by to the state it leaves, and
the three fields of the byte the two setters write (40_header_bits.md R90 to R94). -/

namespace Sys2Proof

/-! ## The words of the two setters -/

theorem append_eq_shiftLeft_or (a b : BitVec 8) : a ++ b = (a.setWidth 16 <<< 8) ||| b.setWidth 16 :=
  (BitVec.setWidth_eq _).symm.trans BitVec.setWidth_append_eq_shiftLeft_setWidth_or

theorem encode_setmode (m : BitVec 3) : encode (.setmode m) = 0x1100 ||| m.setWidth 16 := by
  rw [encode, append_eq_shiftLeft_or, Instr.arg, BitVec.setWidth_setWidth (by decide)]
  rfl

theorem encode_setver (v : BitVec 8) : encode (.setver v) = 0x1200 ||| v.setWidth 16 :=
  append_eq_shiftLeft_or _ v

end Sys2Proof

namespace Sys2Proof.Machine

/-! ## The three commands -/

/-- Settles O19: the word is CLRPKT's encoding, and its answer is the cleared Packet in every state. -/
theorem clrpktZeroesPacketOnly : Obligations.ClrpktZeroesPacketOnly :=
  ⟨decodeInvertsEncode .clrpkt rfl, execClrpkt_eq⟩

/-- Settles O20: the words are the encodings, and the answer is the same in every state. -/
theorem setmodeWritesModeField : Obligations.SetmodeWritesModeField := by
  refine ⟨fun m => ?word, fun s m => execSetmode_eq m s⟩
  rw [← encode_setmode]
  exact decodeInvertsEncode (.setmode m) rfl

theorem execSetver_of_illegalVersion {v : Byte} (h : legalVersion v = false) (s : State) :
    execSetver v s = .next (s.raise .invalidVersion) := by
  simp [execSetver, h]

/-- Settles O21: the words are the encodings, and the version test decides the answer. -/
theorem setverValidatesThenWritesVersion : Obligations.SetverValidatesThenWritesVersion := by
  refine ⟨fun v => ?word, fun s v => ⟨fun h => ?legal, fun h3 h4 => ?illegal⟩⟩
  case word =>
    rw [← encode_setver]
    exact decodeInvertsEncode (.setver v) rfl
  case legal => exact execSetver_of_legalVersion ((legalVersion_iff v).mpr h) s
  case illegal => exact execSetver_of_illegalVersion ((legalVersion_eq_false v).mpr ⟨h3, h4⟩) s

/-! ## The LI/VN/Mode byte as its three fields -/

/-- The byte with the given LI, VN and MODE fields (30_encoding.md R61). -/
def header (l : BitVec 2) (v m : BitVec 3) : Byte := l ++ v ++ m

/-- Every byte is the header of its fields (40_header_bits.md R93). -/
theorem header_fields (b : Byte) : header (li b) (vn b) (mode b) = b := by
  rw [header, li, vn, mode, BitVec.extractLsb'_append_extractLsb'_eq_extractLsb' (by rfl),
    BitVec.extractLsb'_append_extractLsb'_eq_extractLsb' (by rfl)]
  exact BitVec.extractLsb'_eq_self

theorem header_eq_or (l : BitVec 2) (v m : BitVec 3) :
    header l v m = (l.setWidth 8 <<< 6) ||| (v.setWidth 8 <<< 3) ||| m.setWidth 8 :=
  (BitVec.setWidth_eq (l ++ v ++ m)).symm.trans BitVec.setWidth_append_append_eq_shiftLeft_setWidth_or

@[simp] theorem li_header (l : BitVec 2) (v m : BitVec 3) : li (header l v m) = l := by
  rw [li, header, BitVec.extractLsb'_append_eq_of_le (by decide)]
  exact BitVec.extractLsb'_append_eq_left

@[simp] theorem vn_header (l : BitVec 2) (v m : BitVec 3) : vn (header l v m) = v := by
  rw [vn, header, BitVec.extractLsb'_append_eq_of_le (by decide)]
  exact BitVec.extractLsb'_append_eq_right

@[simp] theorem mode_header (l : BitVec 2) (v m : BitVec 3) : mode (header l v m) = m :=
  BitVec.extractLsb'_append_eq_right

theorem header_and_header (l l' : BitVec 2) (v v' m m' : BitVec 3) :
    header l v m &&& header l' v' m' = header (l &&& l') (v &&& v') (m &&& m') := by
  exact BitVec.and_append.trans (congrArg (· ++ (m &&& m')) BitVec.and_append)

theorem header_or_header (l l' : BitVec 2) (v v' m m' : BitVec 3) :
    header l v m ||| header l' v' m' = header (l ||| l') (v ||| v') (m ||| m') := by
  exact BitVec.or_append.trans (congrArg (· ++ (m ||| m')) BitVec.or_append)

/-! ## Each setter writes its own field

A setter's mask clears its field, and its operand lies inside that field (40_header_bits.md R94). -/

theorem setWidth_eq_header (m : BitVec 3) : m.setWidth 8 = header 0#2 0#3 m := by
  simp [header_eq_or]

/-- The shift loses no bit of a legal version and reaches no other field (40_header_bits.md R92). -/
theorem shiftLeft_eq_header {v : Byte} (h : v = 3 ∨ v = 4) : v <<< 3 = header 0#2 (v.setWidth 3) 0#3 := by
  obtain rfl | rfl := h <;> rfl

@[simp] theorem setMode_header (l : BitVec 2) (v m n : BitVec 3) : setMode (header l v m) n = header l v n := by
  calc setMode (header l v m) n
    _ = (header l v m &&& header (BitVec.allOnes 2) (BitVec.allOnes 3) 0#3) ||| header 0#2 0#3 n :=
      congrArg (_ ||| ·) (setWidth_eq_header n)
    _ = header l v n := by
      rw [header_and_header, header_or_header]
      simp only [BitVec.and_allOnes, BitVec.and_zero, BitVec.or_zero, BitVec.zero_or]

theorem setVersion_header {v : Byte} (h : v = 3 ∨ v = 4) (l : BitVec 2) (n m : BitVec 3) :
    setVersion (header l n m) v = header l (v.setWidth 3) m := by
  calc setVersion (header l n m) v
    _ = (header l n m &&& header (BitVec.allOnes 2) 0#3 (BitVec.allOnes 3)) ||| header 0#2 (v.setWidth 3) 0#3 :=
      congrArg (_ ||| ·) (shiftLeft_eq_header h)
    _ = header l (v.setWidth 3) m := by
      rw [header_and_header, header_or_header]
      simp only [BitVec.and_allOnes, BitVec.and_zero, BitVec.or_zero, BitVec.zero_or]

/-- Settles O26: for the byte written as its fields, on which each setter replaces one. -/
theorem headerSettersWriteDisjointFields : Obligations.HeaderSettersWriteDisjointFields := by
  refine ⟨fun b => (header_fields b).symm.trans (header_eq_or _ _ _), fun b m v => ?_⟩
  obtain ⟨l, n, k, rfl⟩ : ∃ l n k, b = header l n k := ⟨_, _, _, (header_fields b).symm⟩
  constructor
  · simp
  · intro h
    simp [setVersion_header h]

end Sys2Proof.Machine
end

section
/-! PROOFS. The serializer and the deserializer: PACK and UNPACK through the bytes of the packet's 384-bit string, which
determine the Packet and, in canonical form, the buffer (41_serdes.md R100 to R106). -/

namespace Sys2Proof.Machine

/-! ## The bytes `pack()` writes and `unpack()` reads -/

/-- BUF after `pack()`, byte by byte of the 384-bit string (41_serdes.md R100, 30_encoding.md R60). -/
theorem read_pack_eq_packetByte {m : Memory} (hm : m.wf = true) (p : Packet) {i : Nat} (hi : i < 48) :
    (pack p m).read i = packetByte p i :=
  (read_pack hm p hi).trans (packetByte_eq p ⟨i, hi⟩).symm

/-- The Packet after `unpack()`, byte by byte of the 384-bit string (41_serdes.md R103). -/
theorem packetByte_unpack (m : Memory) {i : Nat} (hi : i < 48) : packetByte (unpack m) i = m.read i := by
  rw [packetByte_eq (unpack m) ⟨i, hi⟩]
  simp [packetBytes_unpack]

/-- A Packet is determined by the 48 bytes of its 384-bit string. -/
theorem eq_of_packetByte_eq {p q : Packet} (h : ∀ i, i < 48 → packetByte p i = packetByte q i) : p = q := by
  refine eq_of_packetBytes_eq (List.ext_getElem rfl fun i hi _ => ?_)
  rw [packetBytes_length] at hi
  rw [← packetByte_eq p ⟨i, hi⟩, ← packetByte_eq q ⟨i, hi⟩]
  exact h i hi

/-- A canonical buffer is determined by the 48 bytes of BUF: outside them it reads 0. -/
theorem Memory.eq_of_read_eq_inside {m n : Memory} (hm : m.wf = true) (hn : n.wf = true)
    (h : ∀ i, i < 48 → m.read i = n.read i) : m = n := by
  refine Memory.eq_of_read_eq hm hn fun a => ?_
  by_cases ha : a < 48
  · exact h a ha
  · have hout : Config.packetBytes ≤ a := Nat.le_of_not_lt ha
    rw [Memory.read_outside hm hout, Memory.read_outside hn hout]

/-- `unpack()` reads nothing but the 48 bytes (41_serdes.md R103). -/
theorem unpack_eq_of_read_eq {m n : Memory} (h : ∀ i, i < 48 → m.read i = n.read i) : unpack m = unpack n := by
  refine eq_of_packetByte_eq fun i hi => ?_
  rw [packetByte_unpack m hi, packetByte_unpack n hi]
  exact h i hi

/-- Nothing of the old buffer survives `pack()` (41_serdes.md R100, R105). -/
theorem pack_eq_pack {m n : Memory} (hm : m.wf = true) (hn : n.wf = true) (p : Packet) : pack p m = pack p n := by
  refine Memory.eq_of_read_eq_inside (wf_pack hm p) (wf_pack hn p) fun i hi => ?_
  rw [read_pack_eq_packetByte hm p hi, read_pack_eq_packetByte hn p hi]

/-- Decoding an encoded Packet gives it back (41_serdes.md R104). -/
theorem unpack_pack {m : Memory} (hm : m.wf = true) (p : Packet) : unpack (pack p m) = p := by
  refine eq_of_packetByte_eq fun i hi => ?_
  rw [packetByte_unpack _ hi, read_pack_eq_packetByte hm p hi]

/-- Encoding a decoded buffer gives it back (41_serdes.md R104). -/
theorem pack_unpack {m : Memory} (hm : m.wf = true) : pack (unpack m) m = m := by
  refine Memory.eq_of_read_eq_inside (wf_pack hm _) hm fun i hi => ?_
  rw [read_pack_eq_packetByte hm _ hi, packetByte_unpack m hi]

/-! ## The two commands -/

theorem execUnpack_of_holdsPacket {s : State} (h : s.buflen = 48) :
    execUnpack s = .next ((s.setPkt (unpack s.buf)).respond .ok) := by
  simp [execUnpack, (holdsPacket_iff s).mpr h]

theorem execUnpack_of_wrongLength {s : State} (h : s.buflen ≠ 48) : execUnpack s = .next (s.raise .malformedPacket) := by
  simp [execUnpack, (holdsPacket_eq_false s).mpr h]

/-- PACK sets BUFLEN to the one length UNPACK accepts (41_serdes.md R101, R102). -/
theorem serialize_respond_buflen (s : State) (r : Response) : (s.serialize.respond r).buflen = 48 := (rfl)

/-- Settles O22: the word is PACK's encoding; `pack()` writes the string's bytes, and the other updates are BUFLEN and the
answer. -/
theorem packSerializesBigEndian : Obligations.PackSerializesBigEndian := by
  refine ⟨decodeInvertsEncode .pack rfl, fun s hwf => ⟨_, execPack_eq s, fun i hi => ?inside, fun i hi => ?outside,
    serialize_respond_buflen s .ok, ?frame⟩⟩
  case inside => simpa using read_pack_eq_packetByte hwf s.pkt hi
  case outside => simpa using read_pack_outside s.buf s.pkt hi
  case frame => simp [KeepsPacket, KeepsInstants, KeepsResults, KeepsTsi, KeepsExchange, KeepsPort, Answers]

/-- Settles O23: the word is UNPACK's encoding, and the length test decides the answer. -/
theorem unpackDeserializesOrRejects : Obligations.UnpackDeserializesOrRejects := by
  refine ⟨decodeInvertsEncode .unpack rfl, fun s => ⟨fun h => ⟨_, execUnpack_of_holdsPacket h, fun i hi => ?bytes, ?frame⟩,
    fun h => execUnpack_of_wrongLength h⟩⟩
  case bytes => simpa using packetByte_unpack s.buf hi
  case frame => simp [KeepsBuffer, KeepsInstants, KeepsResults, KeepsTsi, KeepsExchange, KeepsPort, Answers]

/-! ## The codec as a bijection, and what it forgets -/

/-- Settles O27: `pack()` and `unpack()` undo each other, and PACK leaves the length UNPACK accepts. -/
theorem codecRoundTrips : Obligations.CodecRoundTrips := by
  refine ⟨fun s hwf => ⟨_, _, execPack_eq s, execUnpack_of_holdsPacket (serialize_respond_buflen s .ok), ?packet, ?answer⟩,
    fun s hwf hlen => ⟨_, _, execUnpack_of_holdsPacket hlen, execPack_eq _, ?buffer, serialize_respond_buflen _ .ok⟩⟩
  case packet => simpa using unpack_pack hwf s.pkt
  case answer => simp
  case buffer => simpa using pack_unpack hwf

/-- Settles O28: every byte of BUF is written over. -/
theorem packedBytesIgnoreOldBuffer : Obligations.PackedBytesIgnoreOldBuffer := by
  intro s s' hwf hwf' hpkt
  refine ⟨_, _, execPack_eq s, execPack_eq s', ?buffer, ?length⟩
  case buffer => simpa [hpkt] using pack_eq_pack hwf hwf' s'.pkt
  case length => simp

/-- Settles O29: every field is loaded from the 48 bytes. -/
theorem unpackedPacketHasNoStaleField : Obligations.UnpackedPacketHasNoStaleField := by
  intro s s' hlen hlen' hbytes
  refine ⟨_, _, execUnpack_of_holdsPacket hlen, execUnpack_of_holdsPacket hlen', ?_⟩
  simpa using unpack_eq_of_read_eq hbytes

end Sys2Proof.Machine
end

section
/-! PROOFS. The timestamp unmarshaller: the conversion is one division of the whole 32.32 fixed-point number, and TS2I places
it in TSI (42_timestamp.md R110 to R114). -/

namespace Sys2Proof.Machine

/-! ## The conversion as one division -/

/-- The seconds convert without remainder, so rounding down the fraction's nanoseconds rounds down those of the whole
timestamp (42_timestamp.md R110, R112). -/
theorem timestampNs_eq_div (ts : Word) : timestampNs ts = ts.toNat * 1000000000 / 2 ^ 32 := by
  have hsplit : ts.toNat * 1000000000 =
      ts.toNat % 2 ^ 32 * 1000000000 + ts.toNat / 2 ^ 32 * 1000000000 * 2 ^ 32 := by omega
  rw [hsplit, Nat.add_mul_div_right _ _ (by decide), Nat.add_comm, timestampNs]

theorem toNat_instant_eq_div (ts : Word) : (instant ts).toNat = ts.toNat * 1000000000 / 2 ^ 32 :=
  (toNat_instant ts).trans (timestampNs_eq_div ts)

/-- Settles O30: both rounding bounds and the order are those of the one division. -/
theorem instantTruncatesAndIsMonotone : Obligations.InstantTruncatesAndIsMonotone := by
  refine ⟨fun ts => ⟨?noOverflow, ?below, ?withinOne⟩, fun ts ts' hle => ?monotone⟩
  case noOverflow => exact (toNat_instant ts).trans_le (timestampNs_le ts)
  case below =>
    rw [toNat_instant_eq_div]
    exact Nat.div_mul_le_self _ _
  case withinOne =>
    rw [toNat_instant_eq_div]
    exact Nat.lt_mul_of_div_lt (Nat.lt_succ_self _) (by decide)
  case monotone =>
    rw [toNat_instant_eq_div, toNat_instant_eq_div]
    exact Nat.div_le_div_right (Nat.mul_le_mul_right _ hle)

/-! ## The command -/

/-- Settles O24: the four words are the encodings of TS2I's four selectors, and the only updates are TSI, which gets the
exact conversion, and the answer. -/
theorem ts2iConvertsSelectedTimestamp : Obligations.Ts2iConvertsSelectedTimestamp := by
  refine ⟨⟨decodeInvertsEncode (.ts2i .refts) rfl, decodeInvertsEncode (.ts2i .orgts) rfl,
    decodeInvertsEncode (.ts2i .rxts) rfl, decodeInvertsEncode (.ts2i .txts) rfl⟩,
    fun s r => ⟨_, execTs2i_eq r s, ?converted, ?frame⟩⟩
  case converted =>
    rw [State.respond_tsi, State.setTsi_tsi, toNat_instant]
    cases r <;> rfl
  case frame => simp [KeepsPacket, KeepsBuffer, KeepsInstants, KeepsResults, KeepsExchange, KeepsPort, Answers]

end Sys2Proof.Machine
end

section
/-! PROOFS. The offset estimator: CALC on the four instants, first modulo 2^64, then as exact integers where no subtraction
wraps, and the laws of offset and delay that follow (43_offset.md R120 to R125). -/

namespace Sys2Proof.Machine

/-! ## The three results in every state -/

/-- Settles O25: the word is CALC's encoding, and the only updates are the three results and the answer. -/
theorem calcComputesDelayAndOffset : Obligations.CalcComputesDelayAndOffset := by
  refine ⟨decodeInvertsEncode .calculate rfl, fun s => ⟨_, execCalc_eq s, ?delta, ?ndelay, ?offset, ?frame⟩⟩
  case delta => simp [calcDelta]
  case ndelay => simp [toInt_sdiv2]
  case offset => simp [calcOffset]
  case frame => simp [KeepsPacket, KeepsBuffer, KeepsInstants, KeepsTsi, KeepsExchange, KeepsPort, Answers]

/-- Settles O31: the division toward zero, by the sign of DELTA. -/
theorem ndelayRoundsTowardZero : Obligations.NdelayRoundsTowardZero := by
  intro s
  refine ⟨_, execCalc_eq s, ?_⟩
  simp only [State.respond_delta, State.respond_ndelay, State.calc_delta, State.calc_ndelay, toInt_sdiv2]
  obtain ⟨hsign, hhalf⟩ | ⟨hsign, hhalf⟩ := tdiv_two (calcDelta s).toInt
  · omega
  · omega

/-! ## The exact results of instants in the legal range -/

/-- A difference that fits in 64 bits does not wrap. -/
theorem toInt_sub_of_fits {x y : Word} (hlow : -2 ^ 63 ≤ x.toInt - y.toInt) (hhigh : x.toInt - y.toInt < 2 ^ 63) :
    (x - y).toInt = x.toInt - y.toInt := by
  rw [BitVec.toInt_sub]
  exact Int.bmod_eq_of_le (by omega) (by omega)

theorem toInt_sub_of_inRange {x y : Word} (hx : InRange x) (hy : InRange y) : (x - y).toInt = x.toInt - y.toInt := by
  obtain ⟨hx0, hxmax⟩ := hx
  obtain ⟨hy0, hymax⟩ := hy
  exact toInt_sub_of_fits (by omega) (by omega)

/-- DELTA is exact: a difference of two instants needs 63 bits, and so a difference of two such differences fits in 64
(43_offset.md R124). -/
theorem toInt_calcDelta {s : State} (h : InstantsInRange s) :
    (calcDelta s).toInt = (s.t4.toInt - s.t1.toInt) - (s.t3.toInt - s.t2.toInt) := by
  obtain ⟨h1, h2, h3, h4⟩ := h
  have hlocal := toInt_sub_of_inRange h4 h1
  have hserver := toInt_sub_of_inRange h3 h2
  unfold InRange at h1 h2 h3 h4
  rw [calcDelta, toInt_sub_of_fits, hlocal, hserver] <;> omega

/-- OFFSET is exact: halving DELTA leaves room for the last subtraction (43_offset.md R124). -/
theorem toInt_calcOffset {s : State} (h : InstantsInRange s) :
    (calcOffset s).toInt = (s.t2.toInt - s.t1.toInt) - (sdiv2 (calcDelta s)).toInt := by
  have hdelta := toInt_calcDelta h
  have hhalf := tdiv_two (calcDelta s).toInt
  rw [← toInt_sdiv2] at hhalf
  obtain ⟨h1, h2, h3, h4⟩ := h
  have hout := toInt_sub_of_inRange h2 h1
  unfold InRange at h1 h2 h3 h4
  rw [calcOffset, toInt_sub_of_fits, hout] <;> omega

/-- CALC on instants in the legal range computes the three formulas in exact integers. -/
theorem execCalc_exact {s : State} (h : InstantsInRange s) :
    ∃ t, exec .calculate s = .next t ∧
      t.delta.toInt = (s.t4.toInt - s.t1.toInt) - (s.t3.toInt - s.t2.toInt) ∧
      t.ndelay.toInt = t.delta.toInt.tdiv 2 ∧
      t.offset.toInt = (s.t2.toInt - s.t1.toInt) - t.ndelay.toInt :=
  ⟨_, execCalc_eq s, toInt_calcDelta h, toInt_sdiv2 _, toInt_calcOffset h⟩

/-- Settles O32: the results are exact, and INSTANT_MAX below 2^62 bounds them. -/
theorem calcIsExactInRange : Obligations.CalcIsExactInRange := by
  intro s h
  obtain ⟨t, e, hdelta, hndelay, hoffset⟩ := execCalc_exact h
  refine ⟨t, e, hdelta, hdelta ▸ hndelay, hoffset, ?bounds⟩
  case bounds =>
    have hhalf := tdiv_two t.delta.toInt
    rw [← hndelay] at hhalf
    unfold InstantsInRange InRange at h
    omega

/-! ## The laws of offset and delay -/

/-- Settles O33: the leads cancel in DELTA, whose half is the latency, and the latencies cancel in OFFSET. -/
theorem offsetIsServerLead : Obligations.OffsetIsServerLead := by
  intro s d θ h hout hback
  obtain ⟨t, e, hdelta, hndelay, hoffset⟩ := execCalc_exact h
  have hdelta' : t.delta.toInt = 2 * d := by omega
  have hndelay' : t.ndelay.toInt = d := by rw [hndelay, hdelta', Int.mul_tdiv_cancel_left d (by decide)]
  exact ⟨t, e, hdelta', hndelay', by omega⟩

/-- The two forms of the offset, on the two legs `a = T2 - T1` and `b = T3 - T4`: they differ only in how half of an odd
`a - b` and half of an odd `a + b` are rounded (43_offset.md R125). -/
theorem oneSided_symmetric (a b : Int) :
    ((a - b) % 2 = 0 → a - (a - b).tdiv 2 = (a + b).tdiv 2) ∧ (a - (a - b).tdiv 2 - (a + b).tdiv 2).natAbs ≤ 1 := by
  have hdiff := tdiv_two (a - b)
  have hsum := tdiv_two (a + b)
  refine ⟨fun heven => ?same, ?withinOne⟩
  case same => omega
  case withinOne => omega

/-- Settles O34: the results are exact, DELTA is the difference of the two legs, and the odd case is evaluated. -/
theorem oneSidedFormAgainstSymmetricForm : Obligations.OneSidedFormAgainstSymmetricForm := by
  refine ⟨fun s h => ?forms, _, execCalc_eq _, by decide⟩
  case forms =>
    obtain ⟨t, e, hdelta, hndelay, hoffset⟩ := execCalc_exact h
    have hlegs : t.delta.toInt = (s.t2.toInt - s.t1.toInt) - (s.t3.toInt - s.t4.toInt) := by omega
    refine ⟨t, e, ?_⟩
    rw [hoffset, hndelay, hlegs]
    exact oneSided_symmetric _ _

end Sys2Proof.Machine
end

section
/-! PROOFS. The request state machine: each exchange command in the phases that accept it and out of them, every command as a
row of the transition table, and what the table says of a step of the block (44_exchange.md R130 to R139). -/

namespace Sys2Proof

/-! ## The words of REQ and ABORT -/

theorem encode_req (v : BitVec 8) : encode (.req v) = 0x0200 ||| v.setWidth 16 :=
  append_eq_shiftLeft_or _ v

/-- The transport reports every kind but the two the block detects itself (44_exchange.md R135). -/
theorem ErrorKind.reportable_iff_ne (k : ErrorKind) :
    k.reportable = true ↔ k ≠ .invalidVersion ∧ k ≠ .malformedPacket := by
  cases k <;> decide

/-- Only a kind the transport reports is spelled (30_encoding.md R75 step 3). -/
theorem decode_ne_abort {k : ErrorKind} (h : k.reportable = false) (w : CmdWord) : decode w ≠ .ok (.abort k) := by
  intro hw
  obtain ⟨-, hwf⟩ := encodeInvertsDecode w _ hw
  exact Bool.false_ne_true (h.symm.trans hwf)

end Sys2Proof

namespace Sys2Proof.Machine

/-! ## The acceptance table, command by command (44_exchange.md R130) -/

theorem accepts_new_iff (p : Phase) : accepts .new p = true ↔ p = .idle ∨ p = .decoded ∨ p = .failed := by
  cases p <;> decide

theorem accepts_req_iff (v : BitVec 8) (p : Phase) : accepts (.req v) p = true ↔ p = .idle := by
  cases p <;> simp [accepts]

theorem accepts_sent_iff (p : Phase) : accepts .sent p = true ↔ p = .awaitingSend := by
  cases p <;> decide

theorem accepts_reply_iff (p : Phase) : accepts .reply p = true ↔ p = .awaitingReply := by
  cases p <;> decide

theorem accepts_abort_iff (k : ErrorKind) (p : Phase) :
    accepts (.abort k) p = true ↔ p = .idle ∨ p = .awaitingSend ∨ p = .awaitingReply := by
  cases p <;> simp [accepts]

theorem exec_of_accepts_ne_true {i : Instr} {s : State} (h : ¬ accepts i s.phase = true) : exec i s = .next s.refuse :=
  exec_of_not_accepted (Bool.eq_false_of_not_eq_true h)

/-! ## The exchange commands where they are accepted -/

theorem execNew_of_accepts {s : State} (h : accepts .new s.phase = true) :
    execNew s = .next (s.freshInstance.respond .ok) := by
  simp [execNew, h]

theorem execReq_of_legalVersion {v : BitVec 8} {s : State} (h : accepts (.req v) s.phase = true)
    (hv : legalVersion v = true) :
    execReq v s = .next ((((s.setPkt (requestPacket v)).serialize).setPhase .awaitingSend).respond .ok) := by
  simp [execReq, h, hv]

theorem execReq_of_illegalVersion {v : BitVec 8} {s : State} (h : accepts (.req v) s.phase = true)
    (hv : legalVersion v = false) : execReq v s = .next (s.takeFailure .invalidVersion (.error .invalidVersion)) := by
  simp [execReq, h, hv]

theorem execSent_of_accepts {s : State} (h : accepts .sent s.phase = true) :
    execSent s = .next ((s.setPhase .awaitingReply).respond .ok) := by
  simp [execSent, h]

theorem execReply_of_holdsPacket {s : State} (h : accepts .reply s.phase = true) (hlen : s.buflen = 48) :
    execReply s = .next ((s.decodeReply.calc.setPhase .decoded).respond .ok) := by
  simp [execReply, h, (holdsPacket_iff s).mpr hlen]

theorem execReply_of_wrongLength {s : State} (h : accepts .reply s.phase = true) (hlen : s.buflen ≠ 48) :
    execReply s = .next (s.takeFailure .malformedPacket (.error .malformedPacket)) := by
  simp [execReply, h, (holdsPacket_eq_false s).mpr hlen]

theorem execAbort_of_reportable {k : ErrorKind} {s : State} (h : accepts (.abort k) s.phase = true)
    (hk : k.reportable = true) : execAbort k s = .next (s.takeFailure k .ok) := by
  simp [execAbort, h, hk]

/-! ## The five commands -/

/-- Settles O13: the word is NEW's encoding, and the acceptance test decides between the reset registers and the
refusal. -/
theorem newStartsFreshInstance : Obligations.NewStartsFreshInstance := by
  refine ⟨decodeInvertsEncode .new rfl, fun s => ⟨fun h => ?fresh, fun h => ?refused⟩⟩
  case fresh => exact execNew_of_accepts ((accepts_new_iff s.phase).mpr h)
  case refused =>
    refine exec_of_not_accepted ?_
    obtain h | h := h <;> rw [h] <;> rfl

/-- The bytes of a request: the first is the LI/VN/Mode byte, all others are 0 (30_encoding.md R69). -/
theorem packetBytes_requestPacket (v : Byte) :
    packetBytes (requestPacket v) = (requestPacket v).lvm :: List.replicate 47 0 := by
  simp [packetBytes, requestPacket, Packet.zero, bytes4, bytes8]

/-- BUF after a request Packet is serialized, whatever it held (44_exchange.md R132). -/
theorem read_pack_requestPacket {m : Memory} (hm : m.wf = true) (v : Byte) {i : Nat} (hi : i < 48) :
    (pack (requestPacket v) m).read i = if i = 0 then (requestPacket v).lvm else 0 := by
  rw [read_pack hm _ hi]
  simp only [packetBytes_requestPacket, List.getElem_cons, List.getElem_replicate, dite_eq_ite]

/-- The LI/VN/Mode byte of a request: no leap warning, the version, mode client (30_encoding.md R69). -/
theorem requestPacket_lvm {v : Byte} (h : v = 3 ∨ v = 4) : (requestPacket v).lvm = if v = 4 then 0x23 else 0x1B := by
  obtain rfl | rfl := h <;> rfl

/-- Settles O14: the words are the encodings; the three answers by phase and version, the legal one serializing the request
Packet whatever BUF held. -/
theorem reqBuildsRequestImage : Obligations.ReqBuildsRequestImage := by
  refine ⟨fun v => ?word, fun s v => ⟨fun hphase => ?refused, fun hphase h3 h4 => ?illegal, fun hphase hwf hv => ?legal⟩⟩
  case word =>
    rw [← encode_req]
    exact decodeInvertsEncode (.req v) rfl
  case refused => exact exec_of_accepts_ne_true (mt (accepts_req_iff v s.phase).mp hphase)
  case illegal =>
    exact execReq_of_illegalVersion ((accepts_req_iff v s.phase).mpr hphase) ((legalVersion_eq_false v).mpr ⟨h3, h4⟩)
  case legal =>
    refine ⟨_, execReq_of_legalVersion ((accepts_req_iff v s.phase).mpr hphase) ((legalVersion_iff v).mpr hv),
      ?packet, ?lvm, fun i hi1 hi => ?zero, fun i hi => ?outside, rfl, ?frame⟩
    case packet =>
      rw [← requestPacket_lvm hv]
      simp [requestPacket]
    case lvm =>
      rw [← requestPacket_lvm hv]
      simpa using read_pack_requestPacket hwf v (i := 0) (by decide)
    case zero =>
      have hread := read_pack_requestPacket hwf v hi
      rw [if_neg (Nat.ne_of_gt hi1)] at hread
      simpa using hread
    case outside => simpa using read_pack_outside s.buf (requestPacket v) hi
    case frame => simp [KeepsInstants, KeepsResults, KeepsTsi, KeepsPort, Answers]

/-- Settles O16: the word is SENT's encoding, and the acceptance test decides the answer. -/
theorem sentRecordsHandover : Obligations.SentRecordsHandover :=
  ⟨decodeInvertsEncode .sent rfl, fun s => ⟨fun h => execSent_of_accepts ((accepts_sent_iff s.phase).mpr h),
    fun h => exec_of_accepts_ne_true (mt (accepts_sent_iff s.phase).mp h)⟩⟩

/-- Settles O17: the word is REPLY's encoding; the three answers by phase and length, the accepted one running the codec, the
conversion and the estimator, each by its own law. -/
theorem replyDecodesAndEstimates : Obligations.ReplyDecodesAndEstimates := by
  refine ⟨decodeInvertsEncode .reply rfl, fun s => ⟨fun hphase => ?refused, fun hphase hlen => ?malformed,
    fun hphase hlen => ?decoded⟩⟩
  case refused => exact exec_of_accepts_ne_true (mt (accepts_reply_iff s.phase).mp hphase)
  case malformed => exact execReply_of_wrongLength ((accepts_reply_iff s.phase).mpr hphase) hlen
  case decoded =>
    refine ⟨_, execReply_of_holdsPacket ((accepts_reply_iff s.phase).mpr hphase) hlen, fun i hi => ?bytes, ?t2, ?t3, ?t1,
      ?t4, ?delta, ?ndelay, ?offset, ?frame⟩
    case bytes => simpa using packetByte_unpack s.buf hi
    case t2 => simp [toNat_instant]
    case t3 => simp [toNat_instant]
    case t1 => simp
    case t4 => simp
    case delta => simp [calcDelta]
    case ndelay => simp [toInt_sdiv2]
    case offset => simp [calcOffset]
    case frame => simp [KeepsBuffer, KeepsTsi, KeepsPort, Answers]

/-- Settles O18: the words are the encodings, a word spells a reportable kind only, and the phase decides the answer. -/
theorem abortRecordsTransportFailure : Obligations.AbortRecordsTransportFailure := by
  have word (k : ErrorKind) (hk : k.reportable = true) : decode (encode (.abort k)) = .ok (.abort k) :=
    decodeInvertsEncode (.abort k) hk
  refine ⟨⟨word .resolutionFailure rfl, word .connectFailure rfl, word .timeout rfl, word .writeFailure rfl,
    word .readFailure rfl⟩, fun w => ⟨decode_ne_abort rfl w, decode_ne_abort rfl w⟩,
    fun s k => ⟨fun hversion hlength hphase => ?failure, fun hphase => ?refused⟩⟩
  case failure =>
    exact execAbort_of_reportable ((accepts_abort_iff k s.phase).mpr hphase) (k.reportable_iff_ne.mpr ⟨hversion, hlength⟩)
  case refused =>
    refine exec_of_not_accepted ?_
    obtain h | h := hphase <;> rw [h] <;> rfl

/-! ## The primitive commands: PHASE and ERR are neither written nor read (44_exchange.md R139) -/

/-- `s` with `p` and `e` in PHASE and ERR. -/
def State.withExchange (s : State) (p : Phase) (e : Option ErrorKind) : State := { s with phase := p, err := e }

section
variable (s : State) (p : Phase) (e : Option ErrorKind)

@[simp] theorem State.withExchange_pkt : (s.withExchange p e).pkt = s.pkt := (rfl)

@[simp] theorem State.withExchange_buf : (s.withExchange p e).buf = s.buf := (rfl)

@[simp] theorem State.setPkt_withExchange (k : Packet) :
    (s.withExchange p e).setPkt k = (s.setPkt k).withExchange p e := (rfl)

@[simp] theorem State.setLvm_withExchange (b : Byte) :
    (s.withExchange p e).setLvm b = (s.setLvm b).withExchange p e := (rfl)

@[simp] theorem State.setBuffer_withExchange (m : Memory) (n : BitVec 16) :
    (s.withExchange p e).setBuffer m n = (s.setBuffer m n).withExchange p e := (rfl)

@[simp] theorem State.setTsi_withExchange (v : Word) :
    (s.withExchange p e).setTsi v = (s.setTsi v).withExchange p e := (rfl)

@[simp] theorem State.respond_withExchange (r : Response) :
    (s.withExchange p e).respond r = (s.respond r).withExchange p e := (rfl)

@[simp] theorem State.raise_withExchange (k : ErrorKind) :
    (s.withExchange p e).raise k = (s.raise k).withExchange p e := (rfl)

@[simp] theorem State.calc_withExchange : (s.withExchange p e).calc = s.calc.withExchange p e := (rfl)

@[simp] theorem State.serialize_withExchange : (s.withExchange p e).serialize = s.serialize.withExchange p e := by
  rw [State.serialize, State.withExchange_pkt, State.withExchange_buf, State.setBuffer_withExchange, State.serialize]

@[simp] theorem holdsPacket_withExchange : holdsPacket (s.withExchange p e) = holdsPacket s := (rfl)

end

/-- What a primitive command writes and reads: it leaves PHASE and ERR alone, gives one of three answers, none of them
REFUSED, and has the same effect with any other PHASE and ERR in their place. -/
theorem exec_primitive {i : Instr} (h : isExchange i = false) (s : State) :
    ∃ t, exec i s = .next t ∧ KeepsExchange s t ∧
      (t.rsp = .ok ∨ t.rsp = .error .invalidVersion ∨ t.rsp = .error .malformedPacket) ∧
      ∀ p e, exec i (s.withExchange p e) = .next (t.withExchange p e) := by
  cases i with
  | new | req | sent | reply | abort => cases h
  | clrpkt =>
    exact ⟨_, execClrpkt_eq s, by simp [KeepsExchange], by simp, fun p e => (execClrpkt_eq _).trans (by simp)⟩
  | setmode m =>
    exact ⟨_, execSetmode_eq m s, by simp [KeepsExchange], by simp, fun p e => (execSetmode_eq m _).trans (by simp)⟩
  | setver v =>
    cases hv : legalVersion v with
    | true =>
      have hexec := execSetver_of_legalVersion hv
      exact ⟨_, hexec s, by simp [KeepsExchange], by simp, fun p e => (hexec _).trans (by simp)⟩
    | false =>
      have hexec := execSetver_of_illegalVersion hv
      exact ⟨_, hexec s, by simp [KeepsExchange], by simp, fun p e => (hexec _).trans (by simp)⟩
  | pack => exact ⟨_, execPack_eq s, by simp [KeepsExchange], by simp, fun p e => (execPack_eq _).trans (by simp)⟩
  | unpack =>
    by_cases hlen : s.buflen = 48
    · exact ⟨_, execUnpack_of_holdsPacket hlen, by simp [KeepsExchange], by simp,
        fun p e => (execUnpack_of_holdsPacket (s := s.withExchange p e) hlen).trans (by simp)⟩
    · exact ⟨_, execUnpack_of_wrongLength hlen, by simp [KeepsExchange], by simp,
        fun p e => (execUnpack_of_wrongLength (s := s.withExchange p e) hlen).trans (by simp)⟩
  | ts2i r =>
    exact ⟨_, execTs2i_eq r s, by simp [KeepsExchange], by simp, fun p e => (execTs2i_eq r _).trans (by simp)⟩
  | calculate =>
    exact ⟨_, execCalc_eq s, by simp [KeepsExchange], by simp, fun p e => (execCalc_eq _).trans (by simp)⟩

theorem step_regRead_keepsExchange {s t : State} {a : RegAddr} {rest : List Transaction}
    (hport : s.port = .regRead a :: rest) (h : step s = .next t) : KeepsExchange s t := by
  cases (step_regRead hport).symm.trans h
  exact ⟨rfl, rfl⟩

theorem step_regWrite_keepsExchange {s t : State} {a : RegAddr} {v : Word} {rest : List Transaction}
    (hport : s.port = .regWrite a v :: rest) (h : step s = .next t) : KeepsExchange s t := by
  cases (step_regWrite hport).symm.trans h
  obtain ⟨-, -, -, -, hphase, herr, -⟩ := writeAddress_frame (s.setPort rest) a v
  exact ⟨hphase, herr⟩

/-- Settles O39: for a command by what it writes and reads, for a register transaction by the frame of the port. -/
theorem primitivesIgnoreExchangeState : Obligations.PrimitivesIgnoreExchangeState := by
  refine ⟨fun s i p e h => ?command, fun s t a rest => step_regRead_keepsExchange,
    fun s t a v rest => step_regWrite_keepsExchange⟩
  case command =>
    obtain ⟨t, hexec, hkeeps, hrsp, hother⟩ := exec_primitive h s
    exact ⟨t, hexec, fun hrefused => by simp [hrefused] at hrsp, hkeeps, hother p e⟩

/-! ## Every command as a row of the transition table (44_exchange.md R138) -/

/-- NEW enters Idle with no error from each phase that accepts it. -/
theorem Transition.new {p : Phase} (h : accepts .new p = true) (e : Option ErrorKind) (n : BitVec 16) :
    Transition p e n .new .idle none .ok := by
  obtain rfl | rfl | rfl := (accepts_new_iff p).mp h
  · exact .newIdle e n
  · exact .newDecoded e n
  · exact .newFailed e n

/-- ABORT enters Failed from each phase that accepts it. -/
theorem Transition.abort {p : Phase} {k : ErrorKind} (h : accepts (.abort k) p = true) (hk : k.reportable = true)
    (e : Option ErrorKind) (n : BitVec 16) : Transition p e n (.abort k) .failed (some k) .ok := by
  obtain rfl | rfl | rfl := (accepts_abort_iff k p).mp h
  · exact .abortIdle e n k hk
  · exact .abortSend e n k hk
  · exact .abortReply e n k hk

/-- An exchange command that is accepted takes the row of its phase and of its own check. -/
theorem exec_transition_of_accepts {i : Instr} {s : State} (hwf : i.wellFormed = true) (hi : isExchange i = true)
    (h : accepts i s.phase = true) :
    ∃ t, exec i s = .next t ∧ Transition s.phase s.err s.buflen i t.phase t.err t.rsp := by
  cases i with
  | new => exact ⟨_, execNew_of_accepts h, .new h _ _⟩
  | req v =>
    have hidle := (accepts_req_iff v s.phase).mp h
    cases hv : legalVersion v with
    | true =>
      refine ⟨_, execReq_of_legalVersion h hv, ?_⟩
      rw [hidle]
      exact .reqLegal _ _ v ((legalVersion_iff v).mp hv)
    | false =>
      obtain ⟨h3, h4⟩ := (legalVersion_eq_false v).mp hv
      refine ⟨_, execReq_of_illegalVersion h hv, ?_⟩
      rw [hidle]
      exact .reqIllegal _ _ v h3 h4
  | sent =>
    refine ⟨_, execSent_of_accepts h, ?_⟩
    rw [(accepts_sent_iff s.phase).mp h]
    exact .sent _ _
  | reply =>
    have hphase := (accepts_reply_iff s.phase).mp h
    by_cases hlen : s.buflen = 48
    · refine ⟨_, execReply_of_holdsPacket h hlen, ?_⟩
      rw [hphase, hlen]
      exact .reply _
    · refine ⟨_, execReply_of_wrongLength h hlen, ?_⟩
      rw [hphase]
      exact .replyLength _ _ hlen
  | abort k => exact ⟨_, execAbort_of_reportable h hwf, .abort h hwf _ _⟩
  | _ => cases hi

/-- Settles O36: an exchange command by whether its phase accepts it, a primitive one by its frame. -/
theorem everyCommandFollowsTransitionTable : Obligations.EveryCommandFollowsTransitionTable := by
  intro s i hwf
  cases hi : isExchange i with
  | true =>
    cases h : accepts i s.phase with
    | true => exact exec_transition_of_accepts hwf hi h
    | false => exact ⟨_, exec_of_not_accepted h, .refused _ _ _ i hi h⟩
  | false =>
    obtain ⟨t, hexec, ⟨hphase, herr⟩, hrsp, -⟩ := exec_primitive hi s
    refine ⟨t, hexec, ?_⟩
    rw [hphase, herr]
    exact .primitive _ _ _ i _ hi hrsp

/-! ## What the table says -/

section
variable {p p' : Phase} {e e' : Option ErrorKind} {n : BitVec 16} {i : Instr} {r : Response}

/-- The one row that answers REFUSED is that of the phases out of acceptance. -/
theorem Transition.rsp_ne_refused (h : Transition p e n i p' e' r) (haccepts : accepts i p = true) : r ≠ .refused := by
  cases h with
  | refused _ _ _ _ _ hrefused => simp [haccepts] at hrefused
  | primitive _ _ _ _ _ _ hr =>
    rintro rfl
    simp at hr
  | _ => nofun

/-- Decoded is entered by one row. -/
theorem Transition.decoded_cases (h : Transition p e n i .decoded e' r) :
    p = .decoded ∨ (p = .awaitingReply ∧ n = 48 ∧ i = .reply) := by
  cases h with
  | reply => exact .inr ⟨rfl, rfl, rfl⟩
  | refused => exact .inl rfl
  | primitive => exact .inl rfl

/-- The rows that leave a terminal phase, or change the error recorded there, are those of NEW (44_exchange.md R136). -/
theorem Transition.new_of_terminal (h : Transition p e n i p' e' r) (hterminal : p.terminal = true)
    (hchange : p' ≠ p ∨ e' ≠ e) : i = .new := by
  cases h with
  | newDecoded | newFailed => rfl
  | refused | primitive => simp at hchange
  | _ => cases hterminal

/-- The rows that lower the rank are those of NEW in a terminal phase (44_exchange.md R137). -/
theorem Transition.new_of_rank_lt (h : Transition p e n i p' e' r) (hrank : p'.rank < p.rank) :
    i = .new ∧ p' = .idle ∧ p.terminal = true := by
  cases h with
  | newDecoded | newFailed => exact ⟨rfl, rfl, rfl⟩
  | refused | primitive => exact absurd hrank (Nat.lt_irrefl _)
  | _ => exact absurd hrank (by decide)

end

/-- Settles O35: an accepted cell by the table's answers, a refused one by the acceptance test. -/
theorem exchangeCommandsRefusedOutOfPhase : Obligations.ExchangeCommandsRefusedOutOfPhase := by
  intro s refused accepted
  have acc {i : Instr} {p : Phase} (hphase : s.phase = p) (hwf : i.wellFormed = true) (h : accepts i p = true) :
      accepted i := by
    subst hphase
    obtain ⟨t, hexec, hrow⟩ := everyCommandFollowsTransitionTable s i hwf
    exact ⟨t, hexec, hrow.rsp_ne_refused h⟩
  have ref {i : Instr} {p : Phase} (hphase : s.phase = p) (h : accepts i p = false) : exec i s = refused := by
    subst hphase
    exact exec_of_not_accepted h
  exact ⟨
    fun h => ⟨acc h rfl rfl, fun _ => acc h rfl rfl, ref h rfl, ref h rfl, fun _ hk => acc h hk rfl⟩,
    fun h => ⟨ref h rfl, fun _ => ref h rfl, acc h rfl rfl, ref h rfl, fun _ hk => acc h hk rfl⟩,
    fun h => ⟨ref h rfl, fun _ => ref h rfl, ref h rfl, acc h rfl rfl, fun _ hk => acc h hk rfl⟩,
    fun h => ⟨acc h rfl rfl, fun _ => ref h rfl, ref h rfl, ref h rfl, fun _ => ref h rfl⟩,
    fun h => ⟨acc h rfl rfl, fun _ => ref h rfl, ref h rfl, ref h rfl, fun _ => ref h rfl⟩⟩

/-! ## What a step can do to the exchange -/

/-- A served command word leaves PHASE and ERR alone or is the word of a command that follows its row. -/
theorem serveCmd_exchange_cases {w : CmdWord} {s t : State} (h : serveCmd w s = .next t) :
    KeepsExchange s t ∨ ∃ i, encode i = w ∧ Transition s.phase s.err s.buflen i t.phase t.err t.rsp := by
  cases hw : decode w with
  | ok i =>
    obtain ⟨hword, hwf⟩ := encodeInvertsDecode w i hw
    obtain ⟨t', hexec, hrow⟩ := everyCommandFollowsTransitionTable s i hwf
    rw [serveCmd_of_decode hw, hexec] at h
    cases h
    exact .inr ⟨i, hword, hrow⟩
  | error e =>
    rw [serveCmd_of_illegal hw] at h
    cases h
    exact .inl ⟨rfl, rfl⟩

/-- A step leaves PHASE and ERR alone, serves a Reset, or serves a command that follows its row of the table. -/
theorem step_exchange_cases {s t : State} (h : step s = .next t) :
    KeepsExchange s t ∨ (t.phase = .idle ∧ ∃ rest, s.port = .reset :: rest) ∨
      ∃ i rest, s.port = .cmd (encode i) :: rest ∧ Transition s.phase s.err s.buflen i t.phase t.err t.rsp := by
  cases hport : s.port with
  | nil =>
    rw [step_nil hport] at h
    cases h
    exact .inl ⟨rfl, rfl⟩
  | cons x rest =>
    cases x with
    | reset =>
      rw [step_cons hport] at h
      cases h
      exact .inr (.inl ⟨rfl, rest, rfl⟩)
    | regRead a => exact .inl (step_regRead_keepsExchange hport h)
    | regWrite a v => exact .inl (step_regWrite_keepsExchange hport h)
    | cmd w =>
      rw [step_cons hport] at h
      obtain hkeeps | ⟨i, rfl, hrow⟩ := serveCmd_exchange_cases h
      · exact .inl hkeeps
      · exact .inr (.inr ⟨i, rest, rfl, hrow⟩)

/-- Settles O40: a step that enters Decoded follows the one row that does. -/
theorem decodedOnlyThroughReply : Obligations.DecodedOnlyThroughReply := by
  intro s t hstep hdecoded
  obtain ⟨hphase, -⟩ | ⟨hidle, -⟩ | ⟨i, rest, hport, hrow⟩ := step_exchange_cases hstep
  · exact .inl (hphase.symm.trans hdecoded)
  · cases hidle.symm.trans hdecoded
  · rw [hdecoded] at hrow
    obtain hphase | ⟨hphase, hlen, rfl⟩ := hrow.decoded_cases
    · exact .inl hphase
    · exact .inr ⟨hphase, hlen, rest, hport⟩

/-- Settles O41: a step that changes PHASE or ERR in a terminal phase serves a Reset or follows a row of NEW. -/
theorem terminalPhaseEndsOnlyAfresh : Obligations.TerminalPhaseEndsOnlyAfresh := by
  intro s t hstep hterminal hchange
  obtain ⟨hphase, herr⟩ | ⟨-, hreset⟩ | ⟨i, rest, hport, hrow⟩ := step_exchange_cases hstep
  · simp [hphase, herr] at hchange
  · exact .inl hreset
  · obtain rfl := hrow.new_of_terminal hterminal hchange
    exact .inr ⟨rest, hport⟩

/-- Settles O43: a step that lowers the rank serves a Reset or follows a row of NEW in a terminal phase. -/
theorem exchangeNeverMovesBackward : Obligations.ExchangeNeverMovesBackward := by
  intro s t hstep hrank
  obtain ⟨hphase, -⟩ | ⟨hidle, hreset⟩ | ⟨i, rest, hport, hrow⟩ := step_exchange_cases hstep
  · exact absurd hrank (by simp [hphase])
  · exact ⟨hidle, .inl hreset⟩
  · obtain ⟨rfl, hidle, hterminal⟩ := hrow.new_of_rank_lt hrank
    exact ⟨hidle, .inr ⟨hterminal, rest, hport⟩⟩

end Sys2Proof.Machine
end

section
/-! PROOFS. Errors and refusals: what a command that does not succeed can write, which check decides its answer, and how the
failure of an exchange is entered and kept (60_exceptions.md R158 to R163). -/

namespace Sys2Proof.Machine

/-! ## What a served command word can do -/

/-- The four ways a command word ends: it succeeds, without entering Failed; it answers a code and writes nothing else (a
refusal, or an error of a primitive command); it fails the exchange by its own check; it is an ABORT and records its kind. -/
inductive CmdEffect (w : CmdWord) (s : State) : State → Prop
  | succeeds {t : State} (hphase : t.phase = .failed → s.phase = .failed) : CmdEffect w s (t.respond .ok)
  | answersOnly (r : Response) : CmdEffect w s (s.respond r)
  | fails (k : ErrorKind) : CmdEffect w s (s.takeFailure k (.error k))
  | aborts (k : ErrorKind) (hw : decode w = .ok (.abort k)) : CmdEffect w s (s.takeFailure k .ok)

theorem exec_effect {w : CmdWord} {i : Instr} (hw : decode w = .ok i) (s : State) :
    ∃ t, exec i s = .next t ∧ CmdEffect w s t := by
  cases i with
  | new =>
    obtain ⟨-, e⟩ | ⟨-, e⟩ := execNew_cases s
    · exact ⟨_, e, .succeeds (by simp)⟩
    · exact ⟨_, e, .answersOnly _⟩
  | req v =>
    obtain ⟨-, -, e⟩ | ⟨-, -, e⟩ | ⟨-, e⟩ := execReq_cases v s
    · exact ⟨_, e, .succeeds (by simp)⟩
    · exact ⟨_, e, .fails _⟩
    · exact ⟨_, e, .answersOnly _⟩
  | sent =>
    obtain ⟨-, e⟩ | ⟨-, e⟩ := execSent_cases s
    · exact ⟨_, e, .succeeds (by simp)⟩
    · exact ⟨_, e, .answersOnly _⟩
  | reply =>
    obtain ⟨-, -, e⟩ | ⟨-, -, e⟩ | ⟨-, e⟩ := execReply_cases s
    · exact ⟨_, e, .succeeds (by simp)⟩
    · exact ⟨_, e, .fails _⟩
    · exact ⟨_, e, .answersOnly _⟩
  | abort k =>
    obtain ⟨-, -, e⟩ | ⟨-, e⟩ := execAbort_cases k s
    · exact ⟨_, e, .aborts k hw⟩
    · exact ⟨_, e, .answersOnly _⟩
  | clrpkt => exact ⟨_, execClrpkt_eq s, .succeeds (by simp)⟩
  | setmode m => exact ⟨_, execSetmode_eq m s, .succeeds (by simp)⟩
  | setver v =>
    obtain ⟨-, e⟩ | ⟨-, e⟩ := execSetver_cases v s
    · exact ⟨_, e, .succeeds (by simp)⟩
    · exact ⟨_, e, .answersOnly _⟩
  | pack => exact ⟨_, execPack_eq s, .succeeds (by simp)⟩
  | unpack =>
    obtain ⟨-, e⟩ | ⟨-, e⟩ := execUnpack_cases s
    · exact ⟨_, e, .succeeds (by simp)⟩
    · exact ⟨_, e, .answersOnly _⟩
  | ts2i r => exact ⟨_, execTs2i_eq r s, .succeeds (by simp)⟩
  | calculate => exact ⟨_, execCalc_eq s, .succeeds (by simp)⟩

theorem serveCmd_effect (w : CmdWord) (s : State) : ∃ t, serveCmd w s = .next t ∧ CmdEffect w s t := by
  cases hw : decode w with
  | ok i =>
    rw [serveCmd_of_decode hw]
    exact exec_effect hw s
  | error e => exact ⟨_, serveCmd_of_illegal hw s, .answersOnly _⟩

theorem step_cmd_effect {s t : State} {w : CmdWord} {rest : List Transaction} (hport : s.port = .cmd w :: rest)
    (hstep : step s = .next t) : CmdEffect w (s.setPort rest) t := by
  obtain ⟨t', hserve, heffect⟩ := serveCmd_effect w (s.setPort rest)
  cases hstep.symm.trans ((step_cons hport).trans hserve)
  exact heffect

/-- Settles O37: of the four ways a command word ends, two answer OK and the others write the status alone. -/
theorem errorsWriteOnlyStatus : Obligations.ErrorsWriteOnlyStatus := by
  intro s t w rest hport hstep hrsp
  cases step_cmd_effect hport hstep with
  | succeeds => exact absurd rfl hrsp
  | answersOnly r => rfl
  | fails k => rfl
  | aborts k => exact absurd rfl hrsp

/-! ## The order of the checks (60_exceptions.md R160) -/

/-- The version check of REQ and SETVER. -/
def versionCheck (v : Byte) : Response := if v = 3 ∨ v = 4 then .ok else .error .invalidVersion

theorem versionCheck_of_legalVersion {v : Byte} (h : legalVersion v = true) : versionCheck v = .ok :=
  if_pos ((legalVersion_iff v).mp h)

theorem versionCheck_of_illegalVersion {v : Byte} (h : legalVersion v = false) :
    versionCheck v = .error .invalidVersion :=
  if_neg (not_or.mpr ((legalVersion_eq_false v).mp h))

/-- What a command answers where its phase accepts it: the version check, the length check, or none. -/
def ownCheck (s : State) : Instr → Response
  | .req v | .setver v => versionCheck v
  | .reply | .unpack => if s.buflen = 48 then .ok else .error .malformedPacket
  | .new | .sent | .abort _ | .clrpkt | .setmode _ | .pack | .ts2i _ | .calculate => .ok

theorem ownCheck_of_no_check {i : Instr} (s : State) (hversion : ∀ v, i ≠ .req v ∧ i ≠ .setver v) (hreply : i ≠ .reply)
    (hunpack : i ≠ .unpack) : ownCheck s i = .ok := by
  cases i with
  | req v => exact absurd rfl (hversion v).1
  | setver v => exact absurd rfl (hversion v).2
  | reply => exact absurd rfl hreply
  | unpack => exact absurd rfl hunpack
  | _ => rfl

theorem exec_answers_ownCheck {i : Instr} {s : State} (hwf : i.wellFormed = true) (h : accepts i s.phase = true) :
    ∃ t, exec i s = .next t ∧ t.rsp = ownCheck s i := by
  cases i with
  | new => exact ⟨_, execNew_of_accepts h, rfl⟩
  | req v =>
    cases hv : legalVersion v with
    | true => exact ⟨_, execReq_of_legalVersion h hv, (versionCheck_of_legalVersion hv).symm⟩
    | false => exact ⟨_, execReq_of_illegalVersion h hv, (versionCheck_of_illegalVersion hv).symm⟩
  | sent => exact ⟨_, execSent_of_accepts h, rfl⟩
  | reply =>
    by_cases hlen : s.buflen = 48
    · exact ⟨_, execReply_of_holdsPacket h hlen, (if_pos hlen).symm⟩
    · exact ⟨_, execReply_of_wrongLength h hlen, (if_neg hlen).symm⟩
  | abort k => exact ⟨_, execAbort_of_reportable h hwf, rfl⟩
  | clrpkt => exact ⟨_, execClrpkt_eq s, rfl⟩
  | setmode m => exact ⟨_, execSetmode_eq m s, rfl⟩
  | setver v =>
    cases hv : legalVersion v with
    | true => exact ⟨_, execSetver_of_legalVersion hv s, (versionCheck_of_legalVersion hv).symm⟩
    | false => exact ⟨_, execSetver_of_illegalVersion hv s, (versionCheck_of_illegalVersion hv).symm⟩
  | pack => exact ⟨_, execPack_eq s, rfl⟩
  | unpack =>
    by_cases hlen : s.buflen = 48
    · exact ⟨_, execUnpack_of_holdsPacket hlen, (if_pos hlen).symm⟩
    · exact ⟨_, execUnpack_of_wrongLength hlen, (if_neg hlen).symm⟩
  | ts2i r => exact ⟨_, execTs2i_eq r s, rfl⟩
  | calculate => exact ⟨_, execCalc_eq s, rfl⟩

/-- Settles O38: by the three checks in their order, the decoder's, the phase's and the command's own. -/
theorem firstFailedCheckDecidesResponse : Obligations.FirstFailedCheckDecidesResponse := by
  intro s w rest hport
  cases hw : decode w with
  | error e => exact ⟨_, (step_cons hport).trans (serveCmd_of_illegal hw _), fun _ => rfl, nofun⟩
  | ok i =>
    have hlegal : ¬ IsIllegal w := (exists_decode_iff w).mp ⟨i, hw⟩
    obtain ⟨-, hwf⟩ := encodeInvertsDecode w i hw
    have hstep : step s = exec i (s.setPort rest) := step_cmd_of_decode hport hw
    cases haccepts : accepts i s.phase with
    | false =>
      refine ⟨_, hstep.trans (exec_of_not_accepted haccepts), fun hillegal => absurd hillegal hlegal, ?_⟩
      rintro _ ⟨⟩
      exact ⟨fun _ => rfl, fun htrue => absurd (haccepts.symm.trans htrue) Bool.false_ne_true⟩
    | true =>
      obtain ⟨t, hexec, hrsp⟩ := exec_answers_ownCheck (s := s.setPort rest) hwf haccepts
      refine ⟨t, hstep.trans hexec, fun hillegal => absurd hillegal hlegal, ?_⟩
      rintro _ ⟨⟩
      refine ⟨fun hfalse => absurd (hfalse.symm.trans haccepts) Bool.false_ne_true, fun _ => ?_⟩
      rw [hrsp]
      refine ⟨fun v hi => ?version, fun hi => ?length, ownCheck_of_no_check _⟩
      case version => obtain rfl | rfl := hi <;> rfl
      case length => obtain rfl | rfl := hi <;> rfl

/-! ## Entering Failed (60_exceptions.md R161) -/

/-- Only a command word changes PHASE to Failed. -/
theorem exists_cmd_of_enters_failed {s t : State} (hstep : step s = .next t) (ht : t.phase = .failed)
    (hs : s.phase ≠ .failed) : ∃ w rest, s.port = .cmd w :: rest := by
  obtain ⟨hphase, -⟩ | ⟨hidle, -⟩ | ⟨i, rest, hport, -⟩ := step_exchange_cases hstep
  · exact absurd (hphase.symm.trans ht) hs
  · cases hidle.symm.trans ht
  · exact ⟨_, rest, hport⟩

/-- Settles O45: of the four ways a command word ends, the two that enter Failed are the failure entry itself. -/
theorem failureEntryWritesKindAndPhaseOnly : Obligations.FailureEntryWritesKindAndPhaseOnly := by
  intro s t hstep ht hs
  obtain ⟨w, rest, hport⟩ := exists_cmd_of_enters_failed hstep ht hs
  rw [hport]
  cases step_cmd_effect hport hstep with
  | succeeds hphase => exact absurd (hphase ht) hs
  | answersOnly r => exact absurd ht hs
  | fails k => exact ⟨k, .error k, rfl, .inl rfl⟩
  | aborts k hw => exact ⟨k, .ok, rfl, .inr ⟨rfl, w, rest, rfl, hw⟩⟩

/-! ## The first error of an exchange is kept (60_exceptions.md R162, R163) -/

/-- A step takes exactly the oldest transaction off the port: serving one commutes with replacing those behind it. -/
theorem step_port {s t : State} (hstep : step s = .next t) : t.port = s.port.tail := by
  cases hport : s.port with
  | nil =>
    cases (step_nil hport).symm.trans hstep
    exact hport
  | cons x rest =>
    rw [step_cons hport, serve_setPort] at hstep
    cases hserve : serve x s with
    | next t' =>
      rw [hserve] at hstep
      cases hstep
      rfl
    | fault r => nomatch r
    | refused r =>
      rw [hserve] at hstep
      cases hstep

theorem step_keeps_error {s : State} {k : ErrorKind} (hinv : s.Inv) (herr : s.err = some k) (hfresh : ¬ StartsFresh s) :
    ∃ t, step s = .next t ∧ t.Inv ∧ t.err = some k := by
  have hfailed : s.phase = .failed := hinv.errIffFailed.mp (by simp [herr])
  obtain ⟨t, hstep, hinv'⟩ := step_keeps_inv hinv
  refine ⟨t, hstep, hinv', ?_⟩
  by_contra hne
  exact hfresh (terminalPhaseEndsOnlyAfresh s t hstep (by rw [hfailed]; rfl) (.inr (herr ▸ hne)))

theorem run_succ_of_step {s t : State} (n : Nat) (h : step s = .next t) :
    Host.Core.run Sys2Proof.core (n + 1) s = Host.Core.run Sys2Proof.core n t := by
  have hstep : Sys2Proof.core.step s = .next t := h
  simp only [Host.Core.run, hstep]

/-- Settles O42: by induction on the number of steps, each of which keeps the invariant and the error. -/
theorem firstErrorKeptUntilFreshStart : Obligations.FirstErrorKeptUntilFreshStart := by
  intro n
  induction n with
  | zero =>
    intro s k hinv herr _
    exact ⟨s, rfl, herr, hinv.errIffFailed.mp (by simp [herr])⟩
  | succ n ih =>
    intro s k hinv herr hserved
    have hfresh : ¬ StartsFresh s := by
      rintro (⟨rest, hport⟩ | ⟨rest, hport⟩) <;> simp [hport] at hserved
    obtain ⟨t, hstep, hinv', herr'⟩ := step_keeps_error hinv herr hfresh
    rw [run_succ_of_step n hstep]
    refine ih t k hinv' herr' fun x hx => hserved x ?_
    rw [step_port hstep, ← List.drop_one, List.take_drop, Nat.add_comm] at hx
    exact List.mem_of_mem_drop hx

end Sys2Proof.Machine
end

section
/-! PROOFS. Reset and hazards: every transaction completes, Reset and an accepted NEW give every register its reset value, and
what else leaves the two waiting phases (70_reset_and_hazards.md R180, R182, R196). -/

namespace Sys2Proof.Machine

/-! ## Every transaction completes (70_reset_and_hazards.md R196) -/

theorem serve_completes (x : Transaction) (s : State) : ∃ t, serve x s = .next t := by
  cases x with
  | reset => exact ⟨_, rfl⟩
  | regRead a => exact ⟨_, rfl⟩
  | regWrite a v => exact ⟨_, rfl⟩
  | cmd w =>
    obtain ⟨t, hserve, -⟩ := serveCmd_effect w s
    exact ⟨t, hserve⟩

theorem step_completes (s : State) : ∃ t, step s = .next t := by
  cases hport : s.port with
  | nil => exact ⟨s, step_nil hport⟩
  | cons x rest =>
    rw [step_cons hport]
    exact serve_completes x _

/-- Settles O7: every step completes, and a step that completes takes the oldest transaction off the port. -/
theorem stepServesOneTransactionAndCompletes : Obligations.StepServesOneTransactionAndCompletes := by
  intro s
  obtain ⟨t, hstep⟩ := step_completes s
  exact ⟨t, hstep, step_port hstep⟩

/-! ## Reset and NEW (70_reset_and_hazards.md R180, R182) -/

/-- A Reset is served in any phase. -/
theorem step_reset {s : State} {rest : List Transaction} (hport : s.port = .reset :: rest) :
    step s = .next { State.reset with port := rest, portOut := .nothing } :=
  step_cons hport

theorem readRegister_reset (r : RegName) : readRegister State.reset r = 0 := by
  cases r <;> rfl

theorem readAddress_reset (a : RegAddr) : readAddress State.reset a = 0 := by
  cases ha : registerAt a with
  | none => exact readAddress_of_unmapped ha _
  | some r => exact (readAddress_of_registerAt ha _).trans (readRegister_reset r)

/-- The rows that leave AwaitingSend or AwaitingReply are those of SENT, REPLY and ABORT (44_exchange.md R138). -/
theorem Transition.cases_of_leaves_awaiting {p p' : Phase} {e e' : Option ErrorKind} {n : BitVec 16} {i : Instr}
    {r : Response} (h : Transition p e n i p' e' r) (hwaiting : p = .awaitingSend ∨ p = .awaitingReply) (hleaves : p' ≠ p) :
    i = .sent ∨ i = .reply ∨ ∃ k : ErrorKind, k.reportable = true ∧ i = .abort k := by
  cases h with
  | sent => exact .inl rfl
  | reply | replyLength => exact .inr (.inl rfl)
  | abortSend _ _ k hk | abortReply _ _ k hk => exact .inr (.inr ⟨k, hk, rfl⟩)
  | refused | primitive => exact absurd rfl hleaves
  | _ => simp at hwaiting

/-- Settles O12: the registers of the reset state are read off one by one, and a step that leaves a waiting phase serves a
Reset or follows one of the rows that do. -/
theorem resetTransactionZeroesEveryRegister : Obligations.ResetTransactionZeroesEveryRegister := by
  refine ⟨fun s rest => step_reset, fun s haccepts => execNew_of_accepts haccepts,
    ⟨readAddress_reset, rfl, rfl, rfl, Memory.read_nil⟩, ?leaves⟩
  case leaves =>
    intro s t hstep hwaiting hleaves
    obtain ⟨hphase, -⟩ | ⟨-, rest, hport⟩ | ⟨i, rest, hport, hrow⟩ := step_exchange_cases hstep
    · exact absurd hphase hleaves
    · exact ⟨_, rest, hport, .inl rfl⟩
    · refine ⟨_, rest, hport, .inr ?_⟩
      obtain rfl | rfl | ⟨k, hk, rfl⟩ := hrow.cases_of_leaves_awaiting hwaiting hleaves
      · exact .inl rfl
      · exact .inr (.inl rfl)
      · exact .inr (.inr ⟨_, k, rfl, decodeInvertsEncode (.abort k) hk⟩)

/-- Settles O44: a Reset and an accepted NEW both leave the reset state, and a refused NEW writes the status alone. -/
theorem newEqualsReset : Obligations.NewEqualsReset := by
  intro s rest
  obtain ⟨hword, hnew⟩ := newStartsFreshInstance
  obtain ⟨hfresh, hrefused⟩ := hnew (s.setPort rest)
  have hstep : step { s with port := .cmd 0x0100 :: rest } = exec .new (s.setPort rest) := step_cmd_of_decode rfl hword
  refine ⟨_, step_reset rfl, fun hsend hreply => hstep.trans (hfresh ?_), fun hwaiting => hstep.trans (hrefused hwaiting)⟩
  rw [State.setPort_phase]
  cases hphase : s.phase with
  | idle | decoded | failed => simp
  | awaitingSend => exact absurd hphase hsend
  | awaitingReply => exact absurd hphase hreply

end Sys2Proof.Machine
end
